-- ==== Sys2Proof/Word.lean ====
section
/-! DEFINITION. The words the part moves: bytes, 16-bit bus words, 23-bit word addresses, chip-select numbers
(00_scope.md, Conventions). -/

namespace Sys2Proof

/-- A byte of a Management Port frame or of one lane. -/
abbrev Byte := BitVec 8

/-- A word of D[15:0], AX_D[15:0] or MD[15:0]: U lane in bits 15:8, L lane in bits 7:0. -/
abbrev BusWord := BitVec 16

/-- A word address: a 24-bit byte address with its lowest bit dropped (00_scope.md, Terms). -/
abbrev WordAddr := BitVec 23

/-- A chip select CS0 to CS3. -/
abbrev Cs := Fin 4

/-- The eight payload bytes of a WRITE_ITEM frame (11.2). -/
abbrev Payload := Vector Byte 8

end Sys2Proof
end

