-- ==== Sys2Proof/Syntax.lean ====
section
/-! DEFINITION. The commands: one constructor per row of spec/opcode_table.json, with the levels of the input
terminals that the event samples as its operands (log 5). -/

namespace Sys2Proof

/-- The System Port's input terminals as sampled in an event (4.1). A Bool is true when the terminal is asserted. -/
structure SpTerminals where
  /-- CE_N asserted. -/
  ce : Bool
  /-- RD_N asserted. -/
  rd : Bool
  /-- WR_N asserted. -/
  wr : Bool
  /-- UB_N asserted. -/
  ub : Bool
  /-- LB_N asserted. -/
  lb : Bool
  /-- LOCK_N asserted. -/
  lock : Bool
  /-- A[23:1]. -/
  a : WordAddr
  /-- D[15:0]. -/
  d : BusWord
deriving DecidableEq, Repr

/-- The Auxiliary Port's input terminals in the presentation event (R87), and the beat that AX_DV and AX_D carry in the
same CK period, if any (R89). -/
structure ApTerminals where
  /-- AX_A[23:1]. -/
  a : WordAddr
  /-- AX_LEN[2:0], the burst length minus one. -/
  len : BitVec 3
  /-- AX_WR high. -/
  wr : Bool
  /-- AX_D when AX_DV is asserted. -/
  beat : Option BusWord
deriving DecidableEq, Repr

/-- Which inputs are seen released at the release of RESET_N (R85, R101, R178). -/
structure ResetLevels where
  /-- CE_N released, or both strobes released. -/
  spReleased : Bool
  /-- AX_REQ released. -/
  axReleased : Bool
  /-- MSEL_N released. -/
  mselReleased : Bool
deriving DecidableEq, Repr

/-- The commands of the part, in the table's order. -/
inductive Instr where
  /-- SP_PRESENTATION (R64). -/
  | spPresentation (t : SpTerminals)
  /-- SP_ACCESS_END (R65). -/
  | spAccessEnd
  /-- DEFERRED_PRESENTATION (R82). -/
  | deferredPresentation
  /-- LOCK_N_RELEASE (R80). -/
  | lockNRelease
  /-- SP_RELEASE_SEEN (R85). -/
  | spReleaseSeen
  /-- AP_PRESENTATION (R87). -/
  | apPresentation (t : ApTerminals)
  /-- WRITE_BEAT (R89): the word on AX_D. -/
  | writeBeat (d : BusWord)
  /-- AX_REQ_RELEASE (R98). -/
  | axReqRelease
  /-- CLOSING_PERIOD_END (R98). -/
  | closingPeriodEnd
  /-- PHASE_END (R125): the word on MD at that moment, taken at the end of a read's strobe. -/
  | phaseEnd (md : BusWord)
  /-- MRDY_READY (R126): the word on MD at that moment. -/
  | mrdyReady (md : BusWord)
  /-- READY_LIMIT_EXCEEDED (R127). -/
  | readyLimitExceeded
  /-- SP_TRANSACTION_COMPLETION (R70): the System Port terminals at that moment (R77, R82). -/
  | spTransactionCompletion (t : SpTerminals)
  /-- DRAIN_COMPLETION (R46). -/
  | drainCompletion
  /-- BURST_WORD_END (R128). -/
  | burstWordEnd
  /-- BURST_COMPLETION (R96). -/
  | burstCompletion
  /-- REFRESH_COMPLETION (R140). -/
  | refreshCompletion
  /-- SELF_ENTER_COMPLETION (R145). -/
  | selfEnterCompletion
  /-- SELF_EXIT_COMPLETION (R146). -/
  | selfExitCompletion
  /-- INTERVAL_EXPIRY (R138) of slice `k`. -/
  | intervalExpiry (k : Cs)
  /-- EXIT_TIMER_EXPIRY (R147) of slice `k`. -/
  | exitTimerExpiry (k : Cs)
  /-- FRAME_START (R172). -/
  | frameStart
  /-- FRAME_END (R171). -/
  | frameEnd
  /-- UNKNOWN_OPCODE (R173): a frame refused with BAD_ITEM; the payload is received when the opcode is WRITE_ITEM's. -/
  | unknownOpcode (opcode argument : Byte) (payload : Payload)
  /-- GET_SUMMARY (R172), opcode 10h. -/
  | getSummary (argument : Byte)
  /-- READ_ITEM (R174), opcode 20h: the argument byte names the item class and the index. -/
  | readItem (argument : Byte)
  /-- WRITE_REGION (R18): WRITE_ITEM naming REGION. -/
  | writeRegion (index : Fin 16) (payload : Payload)
  /-- WRITE_PROFILE (R124): WRITE_ITEM naming PROFILE. -/
  | writeProfile (index : Fin 8) (payload : Payload)
  /-- WRITE_CHIPSEL (R119): WRITE_ITEM naming CHIPSEL. -/
  | writeChipsel (index : Cs) (payload : Payload)
  /-- WRITE_BANKWIN (R29): WRITE_ITEM naming BANKWIN. -/
  | writeBankwin (index : Fin 4) (payload : Payload)
  /-- WRITE_QUEUE_WATERMARK (R42): WRITE_ITEM naming QUEUE. -/
  | writeQueueWatermark (payload : Payload)
  /-- WRITE_ALERT_ENABLES (R170): WRITE_ITEM naming ALERT. -/
  | writeAlertEnables (payload : Payload)
  /-- POP_FAULT (R166), opcode 30h. -/
  | popFault (argument : Byte)
  /-- PEEK_FAULT (R167), opcode 31h. -/
  | peekFault (argument : Byte)
  /-- CLEAR_CAUSES (R169), opcode 32h. -/
  | clearCauses (argument mask : Byte)
  /-- ENTER_RETENTION (R152), opcode 40h. -/
  | enterRetention (argument : Byte)
  /-- EXIT_RETENTION (R158), opcode 41h. -/
  | exitRetention (argument : Byte)
  /-- CONFIG_RESET (R176), opcode 5Ah. -/
  | configReset (argument : Byte)
  /-- PIN_RESET (R84): RESET_N is asserted. -/
  | pinReset
  /-- RESET_RELEASE (R85): RESET_N is released. -/
  | resetRelease (levels : ResetLevels)
deriving DecidableEq, Repr

end Sys2Proof
end

