-- ==== Sys2Proof/Decode.lean ====
section
/-! DEFINITION. The words of the table: spec/opcode_table.json gives no row any bits, so no word spells a command. -/

namespace Sys2Proof

/-- The command that a word spells by the table's bits: none, for every row's list of fields is empty and no row has
fixed bits (98_reader.md, n_rows_with_fixed 0). -/
def decodeTableWord (_nbits _w : Nat) : Option Instr := none

end Sys2Proof
end

