-- ==== Sys2Proof/Config.lean ====
section
/-! DEFINITION. What the part fixes once (capacities and the IDENT contents) and the free values: values that the spec
leaves open, constants with no body. -/

namespace Sys2Proof.Config

/-- The Posted Write Queue holds no more than 16 entries (R32). -/
def queueCapacity : Nat := 16

/-- The fault log holds no more than 8 records (R161). -/
def logCapacity : Nat := 8

/-- The patience count at which the Auxiliary Port request ranks at SP (R102, R108). -/
def patienceLimit : Nat := 4

/-- The family code of the IDENT item (R174). -/
def familyCode : BitVec 16 := 0x0D64

/-- The revision of the IDENT item (R174). -/
def revision : Byte := 0x02

/-- FREE VALUE (DESIGN CHOICE, log 11; safe). Whether the summary byte that GET_SUMMARY returns still shows a last-frame
error flag that its own commit clears. R172 and R173 put both at the commit point and state no order. -/
opaque summaryKeepsFlag : Nat → Bool

/-- FREE VALUE (DESIGN CHOICE, log 12; safe). Bits 1 to 0 of byte 2 of a QUEUE record when there is no head: R60 calls
the head fields absent and 11.6 states no value for these bits. -/
opaque absentHeadCs : Nat → BitVec 2

end Sys2Proof.Config
end

