-- ==== Sys2Proof/Machine/State.lean ====
section
/-! DEFINITION. The state of the part as plain data, and State.reset. Each structure is one block's state and cites the
rule that lists it. -/

namespace Sys2Proof.Machine

/-! ### Names of the tables and descriptors -/

/-- What drives an access (R14). -/
inductive Source where
  | sp | ap
deriving DecidableEq, Repr

/-- The direction of an access (R14). -/
inductive Direction where
  | read | write
deriving DecidableEq, Repr

/-- Byte lanes of a word: never empty (R14, R33). -/
inductive Lanes where
  | u | l | ul
deriving DecidableEq, Repr

/-- Region classes (R1, R7). -/
inductive RegionClass where
  | none | read | posted | strict
deriving DecidableEq, Repr

/-- Chip-select classes (R118). -/
inductive CsClass where
  | unused | rom | sram | dram
deriving DecidableEq, Repr

/-- Ready modes of a timing profile (R124, R126). -/
inductive ReadyMode where
  | none | ready | readyAfterStrobe
deriving DecidableEq, Repr

/-- Fault kinds (R163). -/
inductive FaultKind where
  | decodeMiss | noAccess | readOnlyWrite | targetAbsent | auxDenied | burstSplit
  | deviceTimeout | lateWrite | refreshOverrun | hostWithdrawn
deriving DecidableEq, Repr

/-! ### Region Decoder, Bank Window Unit and the Sequencer's tables -/

/-- A region entry with its fields as stored (R1). The bank window and profile bytes are kept raw, because an entry that
is not valid is stored unchecked and read back as written (R18, R177). -/
structure Region where
  valid : Bool
  base : BitVec 12
  sizeCode : BitVec 4
  cls : RegionClass
  aux : Bool
  cs : Cs
  offset : BitVec 12
  window : Byte
  profile : Byte
deriving DecidableEq, Repr

/-- A bank window (R22). -/
structure Window where
  enable : Bool
  addr : WordAddr
  bank : BitVec 6
deriving DecidableEq, Repr

/-- A chip-select descriptor (R118). -/
structure ChipSel where
  cls : CsClass
  interval : Nat
  cycle : Nat
  threshold : Nat
  enable : Bool
  exitTime : Nat
deriving DecidableEq, Repr

/-- A timing profile (R124). -/
structure Profile where
  setup : Nat
  strobe : Nat
  hold : Nat
  recovery : Nat
  mode : ReadyMode
  limit : Nat
deriving DecidableEq, Repr

/-- The configuration tables: Region Table (R1), bank windows (R22), chip-select descriptors (R118), timing profiles
(R124) and the watermark (R42). -/
structure Tables where
  regions : Vector Region 16
  windows : Vector Window 4
  chipsels : Vector ChipSel 4
  profiles : Vector Profile 8
  watermark : Nat
deriving DecidableEq, Repr

/-! ### Access descriptors and the ports -/

/-- The part of a descriptor that is present when an entry was selected (R14). -/
structure Target where
  region : Fin 16
  cs : Cs
  phys : WordAddr
  profile : Fin 8
deriving DecidableEq, Repr

/-- How an access is handled (R12, R13, R14). -/
inductive Disposition where
  | forwardCheck | posted | strict | lockedRead | lockedWrite
  | fault (k : FaultKind)
deriving DecidableEq, Repr

/-- The access descriptor (R14). -/
structure Descriptor where
  source : Source
  dir : Direction
  word : WordAddr
  lanes : Lanes
  data : Option BusWord
  burst : Option Nat
  target : Option Target
  disposition : Disposition
deriving DecidableEq, Repr

/-- The reason of a System Port HOLD (R63). -/
inductive HoldReason where
  | full | order | wake | grant
deriving DecidableEq, Repr

/-- The kind of a System Port answer (R63). -/
inductive Answer where
  | data | abort
deriving DecidableEq, Repr

/-- The System Port's access state (R63), each state with what is meaningful in it: CHANNEL with the withdrawn marker,
ANSWERED with the answer kind and the word driven on D[15:0] (none: high impedance, R72). -/
inductive SpAccess where
  | idle
  | hold (reason : HoldReason) (d : Descriptor)
  | channel (withdrawn : Bool) (d : Descriptor)
  | answered (answer : Answer) (driven : Option BusWord) (d : Descriptor)
deriving DecidableEq, Repr

/-- LOCK HELD's record (R77). -/
structure Lock where
  cs : Cs
  phys : WordAddr
deriving DecidableEq, Repr

/-- The System Port (R63); `lock` is none for lock state NONE. -/
structure SysPort where
  access : SpAccess
  lock : Option Lock
  deferred : Bool
  releaseSeen : Bool
deriving DecidableEq, Repr

/-- The closing answer (R86). -/
inductive ClosingAnswer where
  | done | err
deriving DecidableEq, Repr

/-- The Auxiliary Port's state (R86). -/
inductive ApPhase where
  | idle | order | wake | grant | burst
  | closing (answer : ClosingAnswer)
deriving DecidableEq, Repr

/-- The Auxiliary Port (R86). The barrier set is held as the places its entries have in the queue, 0 the head (log 16);
beats taken is the length of the beat buffer. -/
structure AuxPort where
  phase : ApPhase
  desc : Option Descriptor
  barrier : List Nat
  buffer : List BusWord
  performed : Nat
  releaseSeen : Bool
  /-- The level of AX_REQ as last seen (R98, R100; log 6). -/
  axReq : Bool
  /-- CK periods left of a CLOSING entered with AX_REQ already released (R98). -/
  closeLeft : Option Nat
  /-- The read beat on AX_D with AX_DV asserted, for one CK period (R94). -/
  beat : Option BusWord
deriving DecidableEq, Repr

/-! ### The queue -/

/-- An entry of the Posted Write Queue (R33). -/
structure Entry where
  cs : Cs
  phys : WordAddr
  lanes : Lanes
  data : BusWord
  word : WordAddr
  region : Fin 16
  profile : Fin 8
  onChannel : Bool
deriving DecidableEq, Repr

/-! ### The channel -/

/-- The holder of a word or burst transaction (R117). -/
inductive WordHolder where
  | sp | ap | head
deriving DecidableEq, Repr

/-- Phases of a word (R117, R125). `ended`: every phase has run out and the report (a burst word's end, R128, or the
completion, R132) is the event to come at that same moment (log 19). -/
inductive Phase where
  | setup | strobe | readyWait | hold | recovery | ended
deriving DecidableEq, Repr

/-- The transaction record of a word or burst kind (R117). -/
structure WordTxn where
  holder : WordHolder
  dir : Direction
  cs : Cs
  start : WordAddr
  count : Nat
  current : Nat
  lanes : Lanes
  data : List BusWord
  timing : Profile
  phase : Phase
  /-- CK periods left in the phase. -/
  left : Nat
  /-- Low samples of MRDY in the current word (R126). -/
  readyCount : Nat
  /-- A period of the ready wait has passed whose sample is not yet taken (log 4). -/
  sampleDue : Bool
  /-- The ready limit was exceeded (R127). -/
  timedOut : Bool
  /-- The word taken from MD at the end of the strobe of a read (R125). -/
  taken : BusWord
deriving DecidableEq, Repr

/-- The kinds whose holder is a slice (R117). -/
inductive SliceOp where
  | refresh | selfEnter | selfExit
deriving DecidableEq, Repr

/-- The transaction record of a refresh or self-refresh kind (R117, R130, R131); its phase is ASSERTED throughout. -/
structure SliceTxn where
  cs : Cs
  op : SliceOp
  cycle : Nat
  left : Nat
deriving DecidableEq, Repr

/-- The transaction on the channel (R117). -/
inductive Txn where
  | word (w : WordTxn)
  | slice (t : SliceTxn)
deriving DecidableEq, Repr

/-- The channel: the transaction record (FREE is none, R102, R117), the patience count (R102), the word address kept on
MA (R133) and the self-refresh request levels driven on MSR_N (R131). -/
structure Channel where
  txn : Option Txn
  patience : Nat
  ma : WordAddr
  msr : Vector Bool 4
deriving DecidableEq, Repr

/-! ### Slices and retention -/

/-- Slice states (R136). -/
inductive SliceState where
  | off | warmup | active | self | waking
deriving DecidableEq, Repr

/-- A Refresh Slice (R136); a timer that is stopped keeps no count. -/
structure Slice where
  state : SliceState
  debt : Nat
  /-- The interval timer: none while it is stopped, else its count. -/
  interval : Option Nat
  /-- The interval in force: the refresh interval copied when the timer last started (R137). -/
  inForce : Nat
  /-- The exit timer: none while it is stopped, else its count. -/
  exitTimer : Option Nat
deriving DecidableEq, Repr

/-- Retention states (R150). -/
inductive RetState where
  | running | draining | retained | resuming
deriving DecidableEq, Repr

/-- A self-refresh command issued by the Retention Controller (R150). -/
inductive SelfCmd where
  | enter | exit
deriving DecidableEq, Repr

/-- The Retention Controller (R150). -/
structure Retention where
  state : RetState
  participants : Vector Bool 4
  begun : Bool
  issued : Vector (Option SelfCmd) 4
deriving DecidableEq, Repr

/-! ### Fault log and alert -/

/-- The source of a fault record (R163). -/
inductive FaultSource where
  | sp | ap | pwq | slice
deriving DecidableEq, Repr

/-- The direction of a fault record (R163). -/
inductive FaultDir where
  | read | write | none
deriving DecidableEq, Repr

/-- A fault occurrence as its producer delivers it (R162, R163): the record without its serial. -/
structure Occurrence where
  kind : FaultKind
  source : FaultSource
  dir : FaultDir
  word : Option WordAddr
  lanes : Option Lanes
  burst : Option Nat
  data : Option BusWord
  region : Option (Fin 16)
  cs : Option Cs
  phys : Option WordAddr
deriving DecidableEq, Repr

/-- A fault record (R163). -/
structure FaultRecord where
  serial : BitVec 16
  occ : Occurrence
deriving DecidableEq, Repr

/-- The four sticky alert causes (R168); LOG is the log being non-empty. -/
structure Causes where
  drop : Bool
  late : Bool
  overrun : Bool
  retain : Bool
deriving DecidableEq, Repr

/-- The five alert enables (R170). -/
structure Enables where
  log : Bool
  drop : Bool
  late : Bool
  overrun : Bool
  retain : Bool
deriving DecidableEq, Repr

/-- The Fault Log and Alert Unit (R161). -/
structure FaultUnit where
  log : List FaultRecord
  serial : BitVec 16
  dropped : Nat
  causes : Causes
  enables : Enables
deriving DecidableEq, Repr

/-! ### Management Port -/

/-- Frame phases (R171). -/
inductive FramePhase where
  | opcode | argument | payload | result | data | trailing
deriving DecidableEq, Repr

/-- Result codes (11.2). -/
inductive Result where
  | done | busy | badItem | badValue | wrongState
deriving DecidableEq, Repr

/-- The frame in progress (R171), with the summary byte taken at its start (R172). -/
structure Frame where
  /-- The part of the frame that the byte now being shifted belongs to. -/
  phase : FramePhase
  summary : Byte
  /-- The bytes received up to the commit point; what MSI carries after it is ignored. -/
  received : List Byte
  /-- The command's result, once it has been performed. -/
  result : Option Result
  /-- The data bytes still to be shifted out, the one now on MSO first. -/
  data : List Byte
deriving DecidableEq, Repr

/-- The Management Port (R171): the frame in progress, the last-frame error flag, and whether MSEL_N has been seen
released since the last pin reset (R178). -/
structure MgmtPort where
  frame : Option Frame
  errorFlag : Bool
  mselSeen : Bool
deriving DecidableEq, Repr

/-- A byte that the host's serial peripheral shifts in on MSI (11, R171): its last bit is sampled in the CK period that follows `wait`
whole periods after the byte before it (log 14). -/
structure MsiByte where
  wait : Nat
  byte : Byte
deriving DecidableEq, Repr

/-! ### The whole part -/

/-- The state of the part. -/
structure State where
  /-- RESET_N asserted. -/
  resetAsserted : Bool
  tables : Tables
  queue : List Entry
  sp : SysPort
  ap : AuxPort
  channel : Channel
  slices : Vector Slice 4
  retention : Retention
  faults : FaultUnit
  mp : MgmtPort
  /-- How many free values have been drawn: the model's own field (log 13). -/
  draws : Nat
  /-- The bytes on their way on MSI, first in first out: the model's own field, filled from outside as `pending` is (log 14). -/
  msi : List MsiByte
  /-- The commands waiting, first in first out (log 1). -/
  pending : List Instr
deriving DecidableEq, Repr

/-- Why a step stops with a fault: the spec gives the part no such stop, every fault of the part is a record and an
answer (R15, R162), so there is no constructor (log 24; safe). -/
inductive Fault where
deriving DecidableEq, Repr

/-- Why a command is refused. -/
inductive Refusal where
  /-- The arm of a command that has no meaning yet; raised by exec only. Safe: nothing can be proved of it. -/
  | notModelled (mnemonic : String)
deriving DecidableEq, Repr

/-! ### Reset values -/

/-- Region entry 0's boot contents (R3). -/
def Region.boot : Region :=
  { valid := true, base := 0, sizeCode := 12, cls := .read, aux := false, cs := 0, offset := 0, window := 0xFF, profile := 7 }

/-- The boot contents of entries 1 to 15 (R3). -/
def Region.blank : Region :=
  { valid := false, base := 0, sizeCode := 0, cls := .none, aux := false, cs := 0, offset := 0, window := 0, profile := 0 }

/-- The pin-reset and CONFIG_RESET values of the tables (R3, R23, R42, R118, R124). -/
def Tables.reset : Tables :=
  let csReset (c : CsClass) : ChipSel :=
    { cls := c, interval := 1560, cycle := 12, threshold := 5, enable := false, exitTime := 400 }
  { regions := (Vector.replicate 16 Region.blank).set 0 Region.boot
    windows := Vector.replicate 4 { enable := false, addr := 0, bank := 0 }
    chipsels := #v[csReset .rom, csReset .unused, csReset .unused, csReset .unused]
    profiles := Vector.replicate 8 { setup := 3, strobe := 31, hold := 3, recovery := 15, mode := .none, limit := 1023 }
    watermark := 12 }

/-- A slice after pin reset and after CONFIG_RESET (R136). The spec gives the interval in force no value there; the model gives it the
refresh interval of a descriptor after reset (DESIGN CHOICE, log 29; unsafe). -/
def Slice.reset : Slice :=
  { state := .off, debt := 0, interval := none, inForce := 1560, exitTimer := none }

/-- The System Port after pin reset (R63, R84). -/
def SysPort.reset : SysPort :=
  { access := .idle, lock := none, deferred := false, releaseSeen := false }

/-- The Auxiliary Port after pin reset (R86, R101), AX_REQ taken as released (log 6). -/
def AuxPort.reset : AuxPort :=
  { phase := .idle, desc := none, barrier := [], buffer := [], performed := 0, releaseSeen := false, axReq := false,
    closeLeft := none, beat := none }

/-- The channel after pin reset (R116, R135). -/
def Channel.reset : Channel :=
  { txn := none, patience := 0, ma := 0, msr := Vector.replicate 4 false }

/-- The Retention Controller after pin reset (R150, R160). -/
def Retention.reset : Retention :=
  { state := .running, participants := Vector.replicate 4 false, begun := false, issued := Vector.replicate 4 none }

/-- The Fault Log and Alert Unit after pin reset (R161). -/
def FaultUnit.reset : FaultUnit :=
  { log := [], serial := 0, dropped := 0, causes := { drop := false, late := false, overrun := false, retain := false },
    enables := { log := false, drop := false, late := false, overrun := false, retain := false } }

/-- The Management Port after pin reset (R178). -/
def MgmtPort.reset : MgmtPort :=
  { frame := none, errorFlag := false, mselSeen := false }

/-- The machine right after reset: RESET_N released again and no input seen released yet (log 7). -/
def State.reset : State :=
  { resetAsserted := false
    tables := Tables.reset
    queue := []
    sp := SysPort.reset
    ap := AuxPort.reset
    channel := Channel.reset
    slices := Vector.replicate 4 Slice.reset
    retention := Retention.reset
    faults := FaultUnit.reset
    mp := MgmtPort.reset
    draws := 0
    msi := []
    pending := [] }

/-! ### One update per block -/

/-- Replaces the configuration tables. -/
def State.setTables (s : State) (x : Tables) : State := { s with tables := x }

/-- Replaces the Posted Write Queue. -/
def State.setQueue (s : State) (x : List Entry) : State := { s with queue := x }

/-- Replaces the System Port. -/
def State.setSp (s : State) (x : SysPort) : State := { s with sp := x }

/-- Replaces the Auxiliary Port. -/
def State.setAp (s : State) (x : AuxPort) : State := { s with ap := x }

/-- Replaces the channel. -/
def State.setChannel (s : State) (x : Channel) : State := { s with channel := x }

/-- Replaces the four slices. -/
def State.setSlices (s : State) (x : Vector Slice 4) : State := { s with slices := x }

/-- Replaces the Retention Controller. -/
def State.setRetention (s : State) (x : Retention) : State := { s with retention := x }

/-- Replaces the Fault Log and Alert Unit. -/
def State.setFaults (s : State) (x : FaultUnit) : State := { s with faults := x }

/-- Replaces the Management Port. -/
def State.setMp (s : State) (x : MgmtPort) : State := { s with mp := x }

/-- Replaces the System Port's access state. -/
def State.setAccess (s : State) (a : SpAccess) : State := { s with sp := { s.sp with access := a } }

/-- Replaces the Auxiliary Port's state. -/
def State.setApPhase (s : State) (p : ApPhase) : State := { s with ap := { s.ap with phase := p } }

/-- Replaces the transaction on the channel; none makes the channel FREE. -/
def State.setTxn (s : State) (t : Option Txn) : State := { s with channel := { s.channel with txn := t } }

/-- Replaces slice `k`. -/
def State.setSlice (s : State) (k : Cs) (x : Slice) : State := { s with slices := s.slices.set k x }

end Sys2Proof.Machine
end

