-- ==== Sys2Proof/Machine/Operands.lean ====
section
/-! DEFINITION. Operand forms: what a port takes from its terminals (R9, R64, R87) and what a Management Port frame's
argument and payload bytes say (11.2, R177). -/

namespace Sys2Proof

/-- CE_N and exactly one strobe are asserted (R64). -/
def SpTerminals.presents (t : SpTerminals) : Bool := t.ce && (t.rd != t.wr)

end Sys2Proof

namespace Sys2Proof.Machine

/-! ### Bytes and lanes -/

/-- The U byte of a word, D[15:8]. -/
def upper (w : BusWord) : Byte := w.extractLsb' 8 8

/-- The L byte of a word, D[7:0]. -/
def lower (w : BusWord) : Byte := w.extractLsb' 0 8

/-- A word from its U and L bytes. -/
def joinBytes (u l : Byte) : BusWord := u ++ l

/-- The lanes include U. -/
def Lanes.hasU : Lanes → Bool
  | .u => true
  | .l => false
  | .ul => true

/-- The lanes include L. -/
def Lanes.hasL : Lanes → Bool
  | .u => false
  | .l => true
  | .ul => true

/-- The union of two lane masks (R36). -/
def Lanes.union : Lanes → Lanes → Lanes
  | .u, .u => .u
  | .l, .l => .l
  | _, _ => .ul

/-- `w` with `fill` in each lane outside `m`. -/
def Lanes.keep (m : Lanes) (fill : Byte) (w : BusWord) : BusWord :=
  joinBytes (if m.hasU then upper w else fill) (if m.hasL then lower w else fill)

/-! ### Terminals -/

/-- The direction given by the asserted strobe (R64). -/
def spDirection (t : SpTerminals) : Direction := if t.rd then .read else .write

/-- The lanes: U when UB_N alone is asserted, L when LB_N alone is, UL when both or neither are (R9, R64). -/
def spLanes (t : SpTerminals) : Lanes :=
  match t.ub, t.lb with
  | true, false => .u
  | false, true => .l
  | _, _ => .ul

/-- The burst length: AX_LEN plus one (R9, R87). -/
def apWords (t : ApTerminals) : Nat := t.len.toNat + 1

/-- The direction given by AX_WR (R87). -/
def apDirection (t : ApTerminals) : Direction := if t.wr then .write else .read

/-! ### Fields of payload bytes -/

/-- A 23-bit word address from three bytes; bit 7 of the first is not examined (R177). -/
def addrOf (b0 b1 b2 : Byte) : WordAddr := (b0 ++ b1 ++ b2).setWidth 23

/-- A 16-bit number, most significant byte first (R177). -/
def halfOf (b0 b1 : Byte) : BitVec 16 := b0 ++ b1

/-- A region class code (11.6). -/
def regionClassOf (c : BitVec 2) : RegionClass :=
  if c = 0 then .none else if c = 1 then .read else if c = 2 then .posted else .strict

/-- A chip-select class code (11.6). -/
def csClassOf (c : BitVec 2) : CsClass :=
  if c = 0 then .unused else if c = 1 then .rom else if c = 2 then .sram else .dram

/-- A chip select from two bits. -/
def csOf (c : BitVec 2) : Cs := c.toFin

/-- The region record (11.6). -/
def regionOf (p : Payload) : Region :=
  { valid := p[0].getLsbD 7
    aux := p[0].getLsbD 6
    cls := regionClassOf (p[0].extractLsb' 4 2)
    sizeCode := p[0].extractLsb' 0 4
    base := (halfOf p[1] p[2]).setWidth 12
    offset := (halfOf p[3] p[4]).setWidth 12
    cs := csOf (p[5].extractLsb' 0 2)
    window := p[6]
    profile := p[7] }

/-- The chip-select record (11.6); bytes 6 and 7 are not examined. -/
def chipSelOf (p : Payload) : ChipSel :=
  { cls := csClassOf (p[0].extractLsb' 6 2)
    enable := p[0].getLsbD 5
    threshold := (p[0].extractLsb' 0 3).toNat
    interval := (halfOf p[1] p[2]).toNat
    cycle := p[3].toNat
    exitTime := (halfOf p[4] p[5]).toNat }

/-- A ready mode code (11.6). -/
def readyModeOf (b : Byte) : Option ReadyMode :=
  if b = 0 then some .none else if b = 1 then some .ready else if b = 2 then some .readyAfterStrobe else none

/-- The profile record (11.6), none when a field is out of its range (R124). -/
def profileOf (p : Payload) : Option Profile :=
  match readyModeOf p[4] with
  | none => none
  | some m =>
    let limit := (halfOf p[5] p[6]).toNat
    if p[0].toNat ≤ 7 ∧ 1 ≤ p[1].toNat ∧ p[1].toNat ≤ 31 ∧ p[2].toNat ≤ 7 ∧ p[3].toNat ≤ 15 ∧ 16 ≤ limit ∧ limit ≤ 1023 then
      some { setup := p[0].toNat, strobe := p[1].toNat, hold := p[2].toNat, recovery := p[3].toNat, mode := m, limit }
    else none

/-- The bank window record (11.6), none when the bank number is 64 to 255 (R29). -/
def windowOf (p : Payload) : Option Window :=
  if p[4].toNat < 64 then
    some { enable := p[0].getLsbD 0, addr := addrOf p[1] p[2] p[3], bank := p[4].setWidth 6 }
  else none

/-- The enables byte of an ALERT record (11.6). -/
def enablesOf (p : Payload) : Enables :=
  { log := p[1].getLsbD 4, drop := p[1].getLsbD 3, late := p[1].getLsbD 2, overrun := p[1].getLsbD 1, retain := p[1].getLsbD 0 }

/-! ### Items -/

/-- The items of 11.2 with their indices. -/
inductive Item where
  | region (i : Fin 16)
  | profile (i : Fin 8)
  | chipsel (i : Cs)
  | bankwin (i : Fin 4)
  | queue
  | alert
  | retention
  | ident
deriving DecidableEq, Repr

/-- The item an argument byte names: class in bits 7 to 4, index in bits 3 to 0; none when the class is unknown or the
index is out of range (11.2, R173 check 2). -/
def itemOf (arg : Byte) : Option Item :=
  let c := (arg.extractLsb' 4 4).toNat
  let i := (arg.extractLsb' 0 4).toNat
  match c with
  | 1 => if h : i < 16 then some (.region ⟨i, h⟩) else none
  | 2 => if h : i < 8 then some (.profile ⟨i, h⟩) else none
  | 3 => if h : i < 4 then some (.chipsel ⟨i, h⟩) else none
  | 4 => if h : i < 4 then some (.bankwin ⟨i, h⟩) else none
  | 5 => if i = 0 then some .queue else none
  | 6 => if i = 0 then some .alert else none
  | 7 => if i = 0 then some .retention else none
  | 8 => if i = 0 then some .ident else none
  | _ => none

/-- The items that WRITE_ITEM may name (11.2). -/
def Item.writable : Item → Bool
  | .region _ => true
  | .profile _ => true
  | .chipsel _ => true
  | .bankwin _ => true
  | .queue => true
  | .alert => true
  | .retention => false
  | .ident => false

/-- Opcodes (11.2). -/
def opGetSummary : Byte := 0x10
def opReadItem : Byte := 0x20
def opWriteItem : Byte := 0x21
def opPopFault : Byte := 0x30
def opPeekFault : Byte := 0x31
def opClearCauses : Byte := 0x32
def opEnterRetention : Byte := 0x40
def opExitRetention : Byte := 0x41
def opConfigReset : Byte := 0x5A

/-- The opcodes of 11.2. -/
def knownOpcodes : List Byte :=
  [opGetSummary, opReadItem, opWriteItem, opPopFault, opPeekFault, opClearCauses, opEnterRetention, opExitRetention, opConfigReset]

/-- A frame is refused with BAD_ITEM by checks 1 to 3 of R173: the opcode is unknown, or READ_ITEM or WRITE_ITEM names no
item, or WRITE_ITEM names a read-only item. -/
def frameRefused (opcode arg : Byte) : Bool :=
  if opcode ∉ knownOpcodes then true
  else if opcode = opReadItem then (itemOf arg).isNone
  else if opcode = opWriteItem then
    match itemOf arg with
    | none => true
    | some i => !i.writable
  else false

/-- The argument byte of a WRITE_ITEM frame: class code and index. -/
def itemArg (cls : BitVec 4) (i : Nat) : Byte := cls ++ BitVec.ofNat 4 i

end Sys2Proof.Machine
end

