-- ==== Sys2Proof/Machine/PostedQueue.lean ====
section
/-! DEFINITION. The Posted Write Queue's own operations (chapter 3): merge and append (R36, R37), forwarding (R50, R51),
the ORDER test (R52, R55) and the barrier set (R56, R57). -/

namespace Sys2Proof.Machine

/-- The entry names this chip select and physical word. -/
def Entry.at (e : Entry) (t : Target) : Bool := e.cs == t.cs && e.phys == t.phys

/-- The entry an appended write creates: 00h in a lane not written, marker clear (R37). -/
def newEntry (d : Descriptor) (t : Target) : Entry :=
  { cs := t.cs, phys := t.phys, lanes := d.lanes, data := d.lanes.keep 0 (d.data.getD 0), word := d.word, region := t.region,
    profile := t.profile, onChannel := false }

/-- The tail after the write in `n` merges into it: the union of the lanes, the written lanes' bytes replaced, everything
else kept (R36). -/
def Entry.merge (e n : Entry) : Entry :=
  { e with
    lanes := e.lanes.union n.lanes
    data := joinBytes (if n.lanes.hasU then upper n.data else upper e.data) (if n.lanes.hasL then lower n.data else lower e.data) }

/-- The tail admits the merge of the write in `n` (R36). -/
def mergesInto (e n : Entry) : Bool := e.cs == n.cs && e.phys == n.phys && !e.onChannel

/-- A posted write is offered: it merges into the tail, or is appended below 16, or neither (none: held in FULL) (R36, R37,
R38). -/
def offer (q : List Entry) (n : Entry) : Option (List Entry) :=
  let append := if q.length < Config.queueCapacity then some (q ++ [n]) else none
  match q.getLast? with
  | some e => if mergesInto e n then some (q.dropLast ++ [e.merge n]) else append
  | none => append

/-- The outcome of a forward check (R50). -/
inductive Forward where
  | miss
  | hit (w : BusWord)
  | part
deriving DecidableEq, Repr

/-- The youngest matching entry that holds a lane (R51). -/
def youngest (ms : List Entry) (holds : Lanes → Bool) : Option Entry := ms.reverse.find? (fun e => holds e.lanes)

/-- One lane of a forwarded answer: the youngest holder's byte, FFh when the lane is not requested (R51). -/
def forwardLane (requested : Bool) (e : Option Entry) (byte : BusWord → Byte) : Byte :=
  if requested then (e.map (fun x => byte x.data)).getD 0xFF else 0xFF

/-- The forward check of a read of `lanes` at `t` (R50, R51). -/
def forwardCheck (q : List Entry) (t : Target) (lanes : Lanes) : Forward :=
  let ms := q.filter (·.at t)
  let u := youngest ms Lanes.hasU
  let l := youngest ms Lanes.hasL
  if ms.isEmpty then .miss
  else if (!lanes.hasU || u.isSome) && (!lanes.hasL || l.isSome) then
    .hit (joinBytes (forwardLane lanes.hasU u upper) (forwardLane lanes.hasL l lower))
  else .part

/-- An access held in ORDER still waits: a partial read for entries of its word (R52), a STRICT access, LOCKED read or LOCKED
write for entries of its chip select (R55). -/
def orderWaits (q : List Entry) (d : Descriptor) : Bool :=
  match d.target with
  | none => false
  | some t =>
    match d.disposition with
    | .forwardCheck => q.any (·.at t)
    | _ => q.any (·.cs == t.cs)

/-- The entry is one of the `n` words from `t.phys` upward, wrapping within the chip select (R6, R56). -/
def Entry.inBurst (e : Entry) (t : Target) (n : Nat) : Bool := e.cs == t.cs && (e.phys - t.phys).toNat < n

/-- The places of the barrier set's entries, taken at the request (R56). -/
def barrierOf (q : List Entry) (t : Target) (n : Nat) : List Nat :=
  (q.zipIdx.filter (fun x => x.1.inBurst t n)).map (·.2)

/-- The barrier set after the head has left the queue (R57). -/
def barrierAfterRemoval (b : List Nat) : List Nat := (b.filter (· != 0)).map (· - 1)

/-- Sets the head's on-channel marker (R45). -/
def markHead (q : List Entry) : List Entry :=
  match q with
  | [] => []
  | e :: rest => { e with onChannel := true } :: rest

end Sys2Proof.Machine
end

