-- ==== Sys2Proof/Machine/Layout.lean ====
section
/-! DEFINITION. The byte layouts of 11.6 as read out, most significant byte first (R177). Bits and bytes that a table marks
0, and fields whose presence flag is clear in a fault record, are 0. A few bits are in no table of 11.6, neither named nor marked 0:
reading them as 0 is the model's choice (DESIGN CHOICE, log 31; unsafe), and the definitions concerned say so. -/

namespace Sys2Proof.Machine

/-- A 16-bit number as two bytes. -/
def halfBytes (n : BitVec 16) : List Byte := [upper n, lower n]

/-- A 23-bit word address as three bytes. -/
def addrBytes (a : WordAddr) : List Byte :=
  let w : BitVec 24 := a.setWidth 24
  [w.extractLsb' 16 8, w.extractLsb' 8 8, w.extractLsb' 0 8]

/-- A region class's code. -/
def RegionClass.code : RegionClass → BitVec 2
  | .none => 0
  | .read => 1
  | .posted => 2
  | .strict => 3

/-- A chip-select class's code. -/
def CsClass.code : CsClass → BitVec 2
  | .unused => 0
  | .rom => 1
  | .sram => 2
  | .dram => 3

/-- A ready mode's code. -/
def ReadyMode.code : ReadyMode → Byte
  | .none => 0
  | .ready => 1
  | .readyAfterStrobe => 2

/-- A slice state's code. -/
def SliceState.code : SliceState → BitVec 3
  | .off => 0
  | .warmup => 1
  | .active => 2
  | .self => 3
  | .waking => 4

/-- A retention state's code (R172, 11.6). -/
def RetState.code : RetState → BitVec 2
  | .running => 0
  | .draining => 1
  | .retained => 2
  | .resuming => 3

/-- A fault kind's code; 00h is the empty marker's. -/
def FaultKind.code : FaultKind → Byte
  | .decodeMiss => 0x01
  | .noAccess => 0x02
  | .readOnlyWrite => 0x03
  | .targetAbsent => 0x04
  | .auxDenied => 0x05
  | .burstSplit => 0x06
  | .deviceTimeout => 0x07
  | .lateWrite => 0x08
  | .refreshOverrun => 0x09
  | .hostWithdrawn => 0x0A

/-- A fault source's code. -/
def FaultSource.code : FaultSource → BitVec 4
  | .sp => 1
  | .ap => 2
  | .pwq => 3
  | .slice => 4

/-- A fault direction's code. -/
def FaultDir.code : FaultDir → BitVec 4
  | .read => 1
  | .write => 2
  | .none => 3

/-- A result code (11.2). -/
def Result.code : Result → Byte
  | .done => 0x00
  | .busy => 0x01
  | .badItem => 0x02
  | .badValue => 0x03
  | .wrongState => 0x04

/-- The region record (REGION). -/
def Region.bytes (r : Region) : List Byte :=
  [BitVec.ofBool r.valid ++ BitVec.ofBool r.aux ++ r.cls.code ++ r.sizeCode]
    ++ halfBytes (r.base.setWidth 16) ++ halfBytes (r.offset.setWidth 16)
    ++ [BitVec.ofNat 8 r.cs, r.window, r.profile]

/-- The chip-select record (CHIPSEL), with the slice state and debt (R123). Bit 7 of byte 6 is in no table: 0 by log 31. -/
def chipSelBytes (c : ChipSel) (sl : Slice) : List Byte :=
  [c.cls.code ++ BitVec.ofBool c.enable ++ (0 : BitVec 2) ++ BitVec.ofNat 3 c.threshold]
    ++ halfBytes (BitVec.ofNat 16 c.interval) ++ [BitVec.ofNat 8 c.cycle] ++ halfBytes (BitVec.ofNat 16 c.exitTime)
    ++ [(0 : BitVec 1) ++ sl.state.code ++ BitVec.ofNat 4 sl.debt, 0]

/-- The profile record (PROFILE). -/
def Profile.bytes (p : Profile) : List Byte :=
  [BitVec.ofNat 8 p.setup, BitVec.ofNat 8 p.strobe, BitVec.ofNat 8 p.hold, BitVec.ofNat 8 p.recovery, p.mode.code]
    ++ halfBytes (BitVec.ofNat 16 p.limit) ++ [0]

/-- The bank window record (BANKWIN). -/
def Window.bytes (w : Window) : List Byte :=
  [(BitVec.ofBool w.enable).setWidth 8] ++ addrBytes w.addr ++ [w.bank.setWidth 8, 0, 0, 0]

/-- The queue record (QUEUE); `absentCs` fills the head chip select bits when there is no head (log 12). Bits 6 to 2 of byte 2 are in
no table: 0 by log 31. -/
def queueBytes (q : List Entry) (watermark : Nat) (absentCs : BitVec 2) : List Byte :=
  let head : Byte × WordAddr :=
    match q with
    | [] => ((0 : BitVec 6) ++ absentCs, 0)
    | e :: _ => ((1 : BitVec 1) ++ (0 : BitVec 5) ++ BitVec.ofNat 2 e.cs, e.phys)
  [BitVec.ofNat 8 q.length, BitVec.ofNat 8 watermark, head.1] ++ addrBytes head.2 ++ [0, 0]

/-- The alert record (ALERT). Bits 7 to 5 of bytes 0 and 1 are in no table: 0 by log 31. -/
def FaultUnit.bytes (f : FaultUnit) : List Byte :=
  [(0 : BitVec 3) ++ BitVec.ofBool (!f.log.isEmpty) ++ BitVec.ofBool f.causes.drop ++ BitVec.ofBool f.causes.late
      ++ BitVec.ofBool f.causes.overrun ++ BitVec.ofBool f.causes.retain,
    (0 : BitVec 3) ++ BitVec.ofBool f.enables.log ++ BitVec.ofBool f.enables.drop ++ BitVec.ofBool f.enables.late
      ++ BitVec.ofBool f.enables.overrun ++ BitVec.ofBool f.enables.retain,
    BitVec.ofNat 8 f.dropped] ++ halfBytes f.serial ++ [0, 0, 0]

/-- The retention record (RETENTION): the state, and bit k of byte 1 for CSk. Bits 7 to 4 of byte 1 are in no table: 0 by log 31. -/
def Retention.bytes (r : Retention) : List Byte :=
  [r.state.code.setWidth 8,
    (0 : BitVec 4) ++ BitVec.ofBool r.participants[3] ++ BitVec.ofBool r.participants[2]
      ++ BitVec.ofBool r.participants[1] ++ BitVec.ofBool r.participants[0], 0, 0, 0, 0, 0, 0]

/-- The identification record (IDENT). -/
def identBytes : List Byte := halfBytes Config.familyCode ++ [Config.revision, 0, 0, 0, 0, 0]

/-- The lane bits of a fault record: U then L. -/
def Lanes.bits (m : Lanes) : BitVec 2 := BitVec.ofBool m.hasU ++ BitVec.ofBool m.hasL

/-- The sixteen bytes of a fault record. Bits 3 and 2 of byte 13 and bits 5 and 4 of byte 14 are in no table: 0 by log 31. -/
def FaultRecord.bytes (r : FaultRecord) : List Byte :=
  let o := r.occ
  halfBytes r.serial
    ++ [o.kind.code, o.source.code ++ o.dir.code,
      BitVec.ofBool o.word.isSome ++ BitVec.ofBool o.lanes.isSome ++ BitVec.ofBool o.burst.isSome ++ BitVec.ofBool o.data.isSome
        ++ BitVec.ofBool o.region.isSome ++ BitVec.ofBool o.cs.isSome ++ BitVec.ofBool o.phys.isSome ++ (0 : BitVec 1)]
    ++ addrBytes (o.word.getD 0) ++ addrBytes (o.phys.getD 0) ++ halfBytes (o.data.getD 0)
    ++ [BitVec.ofNat 4 (o.region.getD 0) ++ (0 : BitVec 2) ++ BitVec.ofNat 2 (o.cs.getD 0),
      ((o.lanes.map Lanes.bits).getD 0) ++ (0 : BitVec 2) ++ BitVec.ofNat 4 (o.burst.getD 0), 0]

/-- The empty marker (R166): kind, source, direction and presence flags 0, the serial the next occurrence will take.
The bits of bytes 13 and 14 that are in no table are 0 by log 31. -/
def emptyMarkerBytes (serial : BitVec 16) : List Byte := halfBytes serial ++ List.replicate 14 0

end Sys2Proof.Machine
end

