-- ==== Sys2Proof/Machine/Flags.lean ====
section
/-! DEFINITION. Status flags: the alert causes and ALERT_N (R168, R170), the queue's pressure flag and coarse occupancy
(R61), the summary byte (R172). -/

namespace Sys2Proof.Machine

/-- The LOG cause: the log holds at least one record (R168). -/
def FaultUnit.logCause (f : FaultUnit) : Bool := !f.log.isEmpty

/-- ALERT_N asserted: at least one cause and its enable are both set (R170). -/
def FaultUnit.alert (f : FaultUnit) : Bool :=
  (f.logCause && f.enables.log) || (f.causes.drop && f.enables.drop) || (f.causes.late && f.enables.late)
    || (f.causes.overrun && f.enables.overrun) || (f.causes.retain && f.enables.retain)

/-- The pressure flag: occupancy at or above the watermark (R61). -/
def State.pressure (s : State) : Bool := s.tables.watermark ≤ s.queue.length

/-- The coarse occupancy (R61). -/
def coarseOccupancy (n : Nat) : BitVec 2 :=
  if n = 0 then 0 else if n < 8 then 1 else if n < 16 then 2 else 3

/-- The summary byte, with `flag` in the last-frame error flag's place (R172). -/
def State.summaryWith (s : State) (flag : Bool) : Byte :=
  s.retention.state.code ++ BitVec.ofBool s.faults.alert ++ BitVec.ofBool s.faults.logCause ++ BitVec.ofBool flag
    ++ BitVec.ofBool s.pressure ++ coarseOccupancy s.queue.length

/-- The summary byte (R172). -/
def State.summary (s : State) : Byte := s.summaryWith s.mp.errorFlag

/-- Sets the RETAIN cause (R168). -/
def FaultUnit.setRetain (f : FaultUnit) : FaultUnit := { f with causes := { f.causes with retain := true } }

/-- The causes after a CLEAR_CAUSES with `mask`: bit 3 DROP, bit 2 LATE, bit 1 OVERRUN, bit 0 RETAIN; bits 7 to 4 are not
examined (R169, R175). -/
def Causes.clear (c : Causes) (mask : Byte) : Causes :=
  { drop := c.drop && !mask.getLsbD 3
    late := c.late && !mask.getLsbD 2
    overrun := c.overrun && !mask.getLsbD 1
    retain := c.retain && !mask.getLsbD 0 }

end Sys2Proof.Machine
end

