-- ==== Sys2Proof/Machine/FaultLog.lean ====
section
/-! DEFINITION. The Fault Log and Alert Unit's operation: taking an occurrence (R162), and the occurrences that the blocks
deliver (R16, R47, R75, R81, R97, R99, R138, R163). -/

namespace Sys2Proof.Machine

/-- The causes an occurrence of kind `k` sets whether it is kept or dropped (R164, R168). -/
def Causes.noteKind (c : Causes) (k : FaultKind) : Causes :=
  { c with late := c.late || decide (k = .lateWrite), overrun := c.overrun || decide (k = .refreshOverrun) }

/-- Takes an occurrence (R162): it gets the counter's serial, the counter advances modulo 65536, and the record is kept at
the tail, or dropped when the log holds 8, with DROP set and the dropped count raised up to 255. -/
def FaultUnit.take (f : FaultUnit) (o : Occurrence) : FaultUnit :=
  let c := f.causes.noteKind o.kind
  if f.log.length < Config.logCapacity then
    { f with log := f.log ++ [{ serial := f.serial, occ := o }], serial := f.serial + 1, causes := c }
  else
    { f with serial := f.serial + 1, dropped := min 255 (f.dropped + 1), causes := { c with drop := true } }

/-- Delivers an occurrence to the unit. -/
def State.deliver (s : State) (o : Occurrence) : State := s.setFaults (s.faults.take o)

/-- The record direction of an access. -/
def Descriptor.faultDir (d : Descriptor) : FaultDir := if d.dir = .read then .read else .write

/-- The write data of a record: present for a write only (R16, R75, R81). -/
def Descriptor.faultData (d : Descriptor) : Option BusWord := if d.dir = .read then none else d.data

/-- The occurrence of kind `k` for a System Port access, from its descriptor (R16, R75, R81): lanes, a write's data, and region, chip
select and physical word when an entry was selected. -/
def Descriptor.spOccurrence (d : Descriptor) (k : FaultKind) : Occurrence :=
  { kind := k, source := .sp, dir := d.faultDir, word := some d.word, lanes := some d.lanes, burst := none, data := d.faultData
    region := d.target.map (·.region), cs := d.target.map (·.cs), phys := d.target.map (·.phys) }

/-- The occurrence of kind `k` for a burst, from its descriptor (R16, R99): the burst length, no lanes and no data. -/
def Descriptor.apOccurrence (d : Descriptor) (k : FaultKind) : Occurrence :=
  { kind := k, source := .ap, dir := d.faultDir, word := some d.word, lanes := none, burst := d.burst, data := none
    region := d.target.map (·.region), cs := d.target.map (·.cs), phys := d.target.map (·.phys) }

/-- The DEVICE_TIMEOUT occurrence of a burst that failed at word `k`: the failed word's addresses (R97). -/
def Descriptor.burstTimeout (d : Descriptor) (k : Nat) : Occurrence :=
  { d.apOccurrence .deviceTimeout with
    word := some (d.word + BitVec.ofNat 23 k)
    phys := d.target.map (fun t => t.phys + BitVec.ofNat 23 k) }

/-- The LATE_WRITE occurrence of an entry (R47). -/
def Entry.lateWrite (e : Entry) : Occurrence :=
  { kind := .lateWrite, source := .pwq, dir := .write, word := some e.word, lanes := some e.lanes, burst := none,
    data := some e.data, region := some e.region, cs := some e.cs, phys := some e.phys }

/-- The REFRESH_OVERRUN occurrence of slice `k` (R138). -/
def overrunOccurrence (k : Cs) : Occurrence :=
  { kind := .refreshOverrun, source := .slice, dir := .none, word := none, lanes := none, burst := none, data := none,
    region := none, cs := some k, phys := none }

end Sys2Proof.Machine
end

