-- ==== Sys2Proof/Machine/RetentionController.lean ====
section
/-! DEFINITION. The wake condition (R68, R91), and the Retention Controller's phases (chapter 9). -/

namespace Sys2Proof.Machine

/-- The controller holds participant `k`'s accesses: DRAINING with the sequence begun, RETAINED or RESUMING (R68, R150). -/
def Retention.holds (r : Retention) (k : Cs) : Bool :=
  r.participants[k] &&
    match r.state with
    | .running => false
    | .draining => r.begun
    | .retained => true
    | .resuming => true

/-- The slice presents the wake condition: WARMUP, SELF or WAKING (R148). -/
def SliceState.wakes : SliceState → Bool
  | .off => false
  | .warmup => true
  | .active => false
  | .self => true
  | .waking => true

/-- The wake condition of R68 for chip select `k`. -/
def State.wakeHolds (s : State) (k : Cs) : Bool :=
  (s.tables.chipsels[k].cls == .dram && s.slices[k].state.wakes) || s.retention.holds k

/-- The wake condition for a descriptor's chip select. -/
def State.descHeld (s : State) (d : Descriptor) : Bool :=
  match d.target with
  | some t => s.wakeHolds t.cs
  | none => false

/-- A System Port access in WAKE enters GRANT when the wake condition has ceased, and one in GRANT returns to WAKE when it has
come to hold (R68, R69). -/
def State.rewakeSp (s : State) : State :=
  match s.sp.access with
  | .hold .wake d => if s.descHeld d then s else s.setAccess (.hold .grant d)
  | .hold .grant d => if s.descHeld d then s.setAccess (.hold .wake d) else s
  | _ => s

/-- The same for the Auxiliary Port; the return to WAKE clears the patience count (R91, R92, R108). -/
def State.rewakeAp (s : State) : State :=
  match s.ap.phase, s.ap.desc with
  | .wake, some d => if s.descHeld d then s else s.setApPhase .grant
  | .grant, some d =>
    if s.descHeld d then (s.setApPhase .wake).setChannel { s.channel with patience := 0 } else s
  | _, _ => s

/-- Both ports act on a change of the wake condition in its event (R148). -/
def State.rewake (s : State) : State := s.rewakeSp.rewakeAp

/-- Every participant's slice satisfies `p`. -/
def State.allParticipants (s : State) (p : Slice → Bool) : Bool :=
  (List.finRange 4).all (fun k => !s.retention.participants[k] || p s.slices[k])

/-- A System Port or Auxiliary Port transaction is on the channel. -/
def Channel.portTxn (c : Channel) : Bool :=
  match c.txn with
  | some (.word w) => w.holder != .head
  | _ => false

/-- The commands issued when `c` is issued for every participant; the others keep theirs (R154, R159). -/
def Retention.issueAll (r : Retention) (c : SelfCmd) : Vector (Option SelfCmd) 4 :=
  Vector.ofFn (fun k : Fin 4 => if r.participants[k] then some c else r.issued[k])

/-- The conditions of R153. -/
def State.mayBegin (s : State) : Bool :=
  s.retention.state == .draining && !s.retention.begun && s.queue.isEmpty
    && s.allParticipants (fun sl => sl.state == .active && sl.debt == 0) && !s.channel.portTxn

/-- The sequence begins: SELF_ENTER is issued for every participant (R154). -/
def State.sequenceBegin (s : State) : State :=
  if s.mayBegin then
    s.setRetention { s.retention with begun := true, issued := s.retention.issueAll .enter }
  else s

/-- The entry to RESUMING: SELF_EXIT is issued for every participant (R159). -/
def State.enterResuming (s : State) : State :=
  s.setRetention { s.retention with state := .resuming, begun := false, issued := s.retention.issueAll .exit }

/-- A descriptor's chip select is a participant. -/
def State.forParticipant (s : State) (d : Descriptor) : Bool :=
  match d.target with
  | some t => s.retention.participants[t.cs]
  | none => false

/-- Work for a participant waits: an access of either port held in WAKE, a System Port write held in FULL, or a queue entry
(R155). -/
def State.participantWork (s : State) : Bool :=
  (match s.sp.access with
    | .hold .wake d => s.forParticipant d
    | .hold .full d => s.forParticipant d
    | _ => false)
  || (match s.ap.phase, s.ap.desc with
    | .wake, some d => s.forParticipant d
    | _, _ => false)
  || s.queue.any (fun e => s.retention.participants[e.cs])

/-- The sequence ends when every participant's slice is SELF: RETAINED with the RETAIN cause, or straight to RESUMING when
participant work waits (R155). -/
def State.sequenceEnd (s : State) : State :=
  if s.retention.state == .draining && s.retention.begun && s.allParticipants (fun sl => sl.state == .self) then
    if s.participantWork then s.enterResuming
    else (s.setRetention { s.retention with state := .retained, begun := false }).setFaults s.faults.setRetain
  else s

/-- RESUMING ends when every participant's slice is ACTIVE: RUNNING, the set emptied, the RETAIN cause set (R159). -/
def State.resumeEnd (s : State) : State :=
  if s.retention.state == .resuming && s.allParticipants (fun sl => sl.state == .active) then
    (s.setRetention { s.retention with state := .running, begun := false, participants := Vector.replicate 4 false }).setFaults
      s.faults.setRetain
  else s

/-- The controller's tests in an event that can change their conditions (R153, R155, R159), with the ports' WAKE holds
following (R148). They come before the Arbiter's decision of that event (log 9). -/
def State.settle (s : State) : State :=
  s.rewake.sequenceBegin.rewake.sequenceEnd.resumeEnd.rewake

/-- In RETAINED, an access to a participant that is neither faulted nor a forward hit resumes the controller (R157). -/
def State.autoResume (s : State) (d : Descriptor) : State :=
  if s.retention.state == .retained && s.forParticipant d then s.enterResuming else s

/-- A chip select leaves the participant set (R151). -/
def State.depart (s : State) (k : Cs) : State :=
  s.setRetention { s.retention with participants := s.retention.participants.set k false }

end Sys2Proof.Machine
end

