-- ==== Sys2Proof/Machine/Sequencer.lean ====
section
/-! DEFINITION. The Channel Sequencer's word phases (R125 to R129), the start of each transaction (R117), and what one CK
period does to a transaction. -/

namespace Sys2Proof.Machine

/-- The word enters its strobe: READY samples from the first strobe period (R126). -/
def WordTxn.enterStrobe (w : WordTxn) : WordTxn :=
  match w.timing.mode with
  | .ready => { w with phase := .readyWait, left := 0, sampleDue := false }
  | _ => { w with phase := .strobe, left := w.timing.strobe, sampleDue := false }

/-- The word begins; a setup of 0 periods is passed over, and the ready wait count starts at 0 (R125, R126). -/
def WordTxn.beginWord (w : WordTxn) : WordTxn :=
  let w := { w with readyCount := 0 }
  if w.timing.setup = 0 then w.enterStrobe else { w with phase := .setup, left := w.timing.setup, sampleDue := false }

/-- This word is the burst's last to be performed: word n - 1, or a word that timed out (R128, R129). -/
def WordTxn.lastWord (w : WordTxn) : Bool := w.timedOut || w.count ≤ w.current + 1

/-- After the hold: recovery after the last word, a recovery of 0 being passed over (R125, R128). -/
def WordTxn.afterHold (w : WordTxn) : WordTxn :=
  if w.lastWord && w.timing.recovery != 0 then { w with phase := .recovery, left := w.timing.recovery }
  else { w with phase := .ended, left := 0 }

/-- The strobe ends; the data of a read is taken from MD (R125, R127); a hold of 0 is passed over. -/
def WordTxn.endStrobe (w : WordTxn) (md : BusWord) : WordTxn :=
  let w := { w with sampleDue := false, taken := match w.dir with
    | .read => md
    | .write => w.taken }
  if w.timing.hold = 0 then w.afterHold else { w with phase := .hold, left := w.timing.hold }

/-- The count of the present phase has run out and the word moves on (R125); none when no count has run out. -/
def WordTxn.phaseEnd (w : WordTxn) (md : BusWord) : Option WordTxn :=
  if w.left ≠ 0 then none
  else
    match w.phase with
    | .setup => some w.enterStrobe
    | .strobe =>
      match w.timing.mode with
      | .readyAfterStrobe => some { w with phase := .readyWait, sampleDue := false }
      | _ => some (w.endStrobe md)
    | .hold => some w.afterHold
    | .recovery => some { w with phase := .ended }
    | .readyWait => none
    | .ended => none

/-- MRDY is sampled high in a ready wait (R126). -/
def WordTxn.ready (w : WordTxn) (md : BusWord) : Option WordTxn :=
  if w.phase = .readyWait ∧ w.sampleDue = true then some (w.endStrobe md) else none

/-- The low sample that takes the ready wait count to limit + 1 (R127). -/
def WordTxn.exceed (w : WordTxn) : Option WordTxn :=
  if w.phase = .readyWait ∧ w.sampleDue = true ∧ w.timing.limit ≤ w.readyCount then
    some ({ w with readyCount := w.readyCount + 1, timedOut := true }.endStrobe w.taken)
  else none

/-- The word address of the current word, wrapping in the chip select (R128). -/
def WordTxn.address (w : WordTxn) : WordAddr := w.start + BitVec.ofNat 23 w.current

/-- One CK period in a word transaction: a count falls; in a ready wait the sample of the period before, if any, was low, and
this period's sample becomes due (log 4). -/
def WordTxn.period (w : WordTxn) : WordTxn :=
  match w.phase with
  | .readyWait => { w with readyCount := if w.sampleDue then w.readyCount + 1 else w.readyCount, sampleDue := true }
  | _ => { w with left := w.left - 1 }

/-- An event of the word is due (log 2): a count has run out, the sample at the limit is due, or the report is. -/
def WordTxn.due (w : WordTxn) : Bool :=
  match w.phase with
  | .readyWait => w.sampleDue && w.timing.limit ≤ w.readyCount
  | .ended => true
  | _ => w.left == 0

/-- One CK period of the transaction. -/
def Txn.period : Txn → Txn
  | .word w => .word w.period
  | .slice t => .slice { t with left := t.left - 1 }

/-- An event of the transaction is due. -/
def Txn.due : Txn → Bool
  | .word w => w.due
  | .slice t => t.left == 0

/-- The chip select of the transaction. -/
def Txn.cs : Txn → Cs
  | .word w => w.cs
  | .slice t => t.cs

/-- Begins a word or burst transaction: the phase values are copied from the profile, and MA carries the first word's address
(R117, R125, R128, R133). -/
def State.beginWord (s : State) (h : WordHolder) (dir : Direction) (t : Target) (count : Nat) (lanes : Lanes)
    (data : List BusWord) : State :=
  let w : WordTxn :=
    { holder := h, dir, cs := t.cs, start := t.phys, count, current := 0, lanes, data,
      timing := s.tables.profiles[t.profile], phase := .setup, left := 0, readyCount := 0, sampleDue := false,
      timedOut := false, taken := 0 }
  s.setChannel { s.channel with txn := some (.word w.beginWord), ma := t.phys }

/-- Begins a refresh or self-refresh transaction: the cycle length is copied; a SELF_ENTER asserts and a SELF_EXIT releases
the chip select's MSR_N (R117, R130, R131). -/
def State.beginSlice (s : State) (k : Cs) (op : SliceOp) : State :=
  let c := s.tables.chipsels[k].cycle
  s.setChannel
    { s.channel with
      txn := some (.slice { cs := k, op, cycle := c, left := c })
      msr := match op with
        | .refresh => s.channel.msr
        | .selfEnter => s.channel.msr.set k true
        | .selfExit => s.channel.msr.set k false }

end Sys2Proof.Machine
end

