-- ==== Sys2Proof/Machine/Arbiter.lean ====
section
/-! DEFINITION. The Channel Arbiter (chapter 6): the requests that stand, their levels, the decision and the grant. -/

namespace Sys2Proof.Machine

/-- The six levels of the ladder (R104). -/
inductive Level where
  | sliceUrgent | drainPressed | sp | ap | drainNormal | sliceIdle
deriving DecidableEq, Repr

/-- A level's rank, 1 the highest (R104). -/
def Level.rank : Level → Nat
  | .sliceUrgent => 1
  | .drainPressed => 2
  | .sp => 3
  | .ap => 4
  | .drainNormal => 5
  | .sliceIdle => 6

/-- The requests of R103. -/
inductive Request where
  | refresh (k : Cs)
  | command (k : Cs) (c : SelfCmd)
  | ap (d : Descriptor) (t : Target)
  | sp (d : Descriptor) (t : Target)
  | head (e : Entry)
deriving DecidableEq, Repr

/-- The level of slice `k`'s refresh request, none when it has none (R104, R106, R139). -/
def State.refreshLevel (s : State) (k : Cs) : Option Level :=
  let sl := s.slices[k]
  if sl.debt = 0 then none
  else
    match sl.state with
    | .warmup => some .sliceUrgent
    | .active =>
      if s.tables.chipsels[k].threshold ≤ sl.debt ∨ (s.retention.state = .draining ∧ s.retention.participants[k] = true) then
        some .sliceUrgent
      else some .sliceIdle
    | _ => none

/-- The requests of slice `k` as a decision at a FREE channel finds them: its refresh, or else a self-refresh command issued for it,
which is left out while it waits behind the slice's refresh (R103, R105, R145). While the slice's own transaction is on the channel its
request has been consumed (R103, R139), and no decision reads the list (R112). -/
def State.sliceRequests (s : State) (k : Cs) : List (Level × Request) :=
  match s.refreshLevel k with
  | some l => [(l, .refresh k)]
  | none =>
    match s.retention.issued[k] with
    | some c => [(.sliceUrgent, .command k c)]
    | none => []

/-- The burst's data is complete: a read's always, a write's when beats taken equals n (R92). -/
def AuxPort.dataComplete (a : AuxPort) (d : Descriptor) : Bool :=
  match d.dir with
  | .read => true
  | .write => a.buffer.length == d.burst.getD 0

/-- The Auxiliary Port's request, if it stands: in GRANT with its data complete, and no lock held (R92, R103, R109). -/
def State.apRequest (s : State) : Option (Descriptor × Target) :=
  match s.ap.phase, s.ap.desc, s.sp.lock with
  | .grant, some d, none => if s.ap.dataComplete d then d.target.map (fun t => (d, t)) else none
  | _, _, _ => none

/-- The Auxiliary Port's level: AP, or SP once its patience is spent (R92, R108). -/
def State.apLevel (s : State) : Level := if Config.patienceLimit ≤ s.channel.patience then .sp else .ap

/-- The System Port's request, if it stands: its access is in HOLD GRANT (R69, R103). -/
def State.spRequest (s : State) : Option (Descriptor × Target) :=
  match s.sp.access with
  | .hold .grant d => d.target.map (fun t => (d, t))
  | _ => none

/-- The head may drain (R44): not on the channel, class SRAM, or class DRAM with its slice OFF or ACTIVE, and not a participant
while the self-refresh entry sequence runs. -/
def State.eligible (s : State) (e : Entry) : Bool :=
  !e.onChannel
    && (match s.tables.chipsels[e.cs].cls with
      | .sram => true
      | .dram => s.slices[e.cs].state == .off || s.slices[e.cs].state == .active
      | _ => false)
    && !(s.retention.state == .draining && s.retention.begun && s.retention.participants[e.cs])

/-- A System Port access is held in ORDER. -/
def SysPort.inOrder (p : SysPort) : Bool :=
  match p.access with
  | .hold .order _ => true
  | _ => false

/-- The level of the head's drain request (R43, R59). -/
def State.headLevel (s : State) : Level :=
  if s.pressure then .drainPressed
  else if s.sp.inOrder then .sp
  else if s.ap.phase = .order then .ap
  else .drainNormal

/-- The head's drain request, if it stands (R43, R44). -/
def State.headRequest (s : State) : Option Entry :=
  match s.queue with
  | [] => none
  | e :: _ => if s.eligible e then some e else none

/-- The requests with their levels as a decision at a FREE channel finds them; among requests of one rank the first listed is
preferred: lower chip selects first (R105, R106), the Auxiliary Port before the others at SP (R107). -/
def State.requests (s : State) : List (Level × Request) :=
  s.sliceRequests 0 ++ s.sliceRequests 1 ++ s.sliceRequests 2 ++ s.sliceRequests 3
    ++ (s.apRequest.map (fun x => (s.apLevel, Request.ap x.1 x.2))).toList
    ++ (s.spRequest.map (fun x => (Level.sp, Request.sp x.1 x.2))).toList
    ++ (s.headRequest.map (fun e => (s.headLevel, Request.head e))).toList

/-- The first of the requests of highest rank. -/
def best : List (Level × Request) → Option (Level × Request)
  | [] => none
  | x :: xs =>
    match best xs with
    | none => some x
    | some y => if y.1.rank < x.1.rank then some y else some x

/-- The request the decision grants (R104). -/
def State.choose (s : State) : Option Request := (best s.requests).map (·.2)

/-- The patience count after a grant of the System Port access: one more, up to 4, when the Auxiliary Port request stands
(R108). -/
def State.patienceAfterSp (s : State) : Nat :=
  if s.apRequest.isSome then min Config.patienceLimit (s.channel.patience + 1) else s.channel.patience

/-- The grant (R112): the holder sees it, the patience count is updated, and the transaction begins. -/
def State.grant (s : State) : Request → State
  | .refresh k => s.beginSlice k .refresh
  | .command k .enter => (s.setSlice k { s.slices[k] with interval := none }).beginSlice k .selfEnter
  | .command k .exit => s.beginSlice k .selfExit
  | .ap d t =>
    ((s.setApPhase .burst).setChannel { s.channel with patience := 0 }).beginWord .ap d.dir t (d.burst.getD 1) .ul s.ap.buffer
  | .sp d t =>
    ((s.setAccess (.channel false d)).setChannel { s.channel with patience := s.patienceAfterSp }).beginWord .sp d.dir t 1
      d.lanes d.data.toList
  | .head e =>
    (s.setQueue (markHead s.queue)).beginWord .head .write
      { region := e.region, cs := e.cs, phys := e.phys, profile := e.profile } 1 e.lanes [e.data]

/-- A decision: while the channel is FREE the highest-ranked standing request is granted (R110, R111). -/
def State.decide (s : State) : State :=
  match s.channel.txn with
  | some _ => s
  | none =>
    match s.choose with
    | some r => s.grant r
    | none => s

/-- The end of an event that can change the controller's conditions: its tests, then the Arbiter's decision (log 9). -/
def State.conclude (s : State) : State := s.settle.decide

end Sys2Proof.Machine
end

