-- ==== Sys2Proof/Machine/Frames.lean ====
section
/-! DEFINITION. The bytes of a Management Port frame (R171, R173): how a byte shifted on MSCK moves the frame on, when the commit point is
reached, what the command leaves in the frame, and what a CK period does to the bytes on their way (log 14). -/

namespace Sys2Proof.Machine

/-- The number of payload bytes, which the opcode alone decides; an unknown opcode has none (11.2, R173 check 1). -/
def payloadBytes (opcode : Byte) : Nat :=
  if opcode = opWriteItem then 8 else if opcode = opClearCauses then 1 else 0

/-- The number of bytes a frame receives up to its commit point: opcode, argument and payload (R173). -/
def commitLength (opcode : Byte) : Nat := 2 + payloadBytes opcode

/-- The bytes received by the commit point are there and the command has not been performed: the commit point is reached (R173). -/
def Frame.commitDue (f : Frame) : Bool :=
  f.result.isNone &&
    match f.received with
    | [] => false
    | op :: rest => rest.length + 1 == commitLength op

/-- The phase of the byte after the opcode or argument byte, the bytes received being `bytes`; at the commit point the phase stays
until the command is performed (R171, R173). -/
def nextPhase (bytes : List Byte) (now : FramePhase) : FramePhase :=
  match bytes with
  | [] => now
  | [_] => .argument
  | op :: _ => if bytes.length < commitLength op then .payload else now

/-- A byte has been shifted: MSI's byte is received up to the commit point and ignored after it; MSO moves from the result byte through
the data bytes to FFh (R171). -/
def Frame.shift (f : Frame) (b : Byte) : Frame :=
  match f.phase with
  | .result => { f with phase := if f.data.isEmpty then .trailing else .data }
  | .data => { f with phase := if f.data.length ≤ 1 then .trailing else .data, data := f.data.tail }
  | .trailing => f
  | _ => if f.commitDue then f else { f with phase := nextPhase (f.received ++ [b]) f.phase, received := f.received ++ [b] }

/-- The byte whose last bit is sampled in this CK period, if any (log 14). -/
def arriving : List MsiByte → Option Byte
  | [] => none
  | x :: _ => if x.wait = 0 then some x.byte else none

/-- The bytes on their way after one CK period (log 14). -/
def MsiByte.advance : List MsiByte → List MsiByte
  | [] => []
  | x :: rest => if x.wait = 0 then rest else { x with wait := x.wait - 1 } :: rest

/-- What one CK period does to a frame: the byte that arrives, if any, is shifted (R171). -/
def Frame.period (f : Frame) (arrives : Option Byte) : Frame :=
  match arrives with
  | some b => f.shift b
  | none => f

/-- The command has been performed: the result code is shifted out next, and the data bytes after it (R171, R173). -/
def Frame.perform (f : Frame) (r : Result) (data : List Byte) : Frame :=
  { f with phase := .result, result := some r, data }

end Sys2Proof.Machine
end

