-- ==== Sys2Proof/Machine/RegionDecoder.lean ====
section
/-! DEFINITION. Region decode (chapter 1) and bank windows in decode and capture (chapter 2). -/

namespace Sys2Proof.Machine

/-- The region's size in 4 KiB units (R1, Table 1-1). -/
def Region.units (r : Region) : Nat := 2 ^ r.sizeCode.toNat

/-- Host byte address `h` lies in the entry's span (R2). -/
def Region.spans (r : Region) (h : Nat) : Bool :=
  r.base.toNat * 4096 ≤ h && h < (r.base.toNat + r.units) * 4096

/-- The entry takes part in decode and covers host word `w` (R2, R4). -/
def Region.covers (r : Region) (w : WordAddr) : Bool := r.valid && r.spans (2 * w.toNat)

/-- The window the entry names: 00h to 03h, none for NONE (R1, R24). -/
def Region.attached (r : Region) : Option (Fin 4) :=
  if h : r.window.toNat < 4 then some ⟨r.window.toNat, h⟩ else none

/-- The profile the entry names; 0 to 7 in every valid entry (R18), the low three bits otherwise (log 22). -/
def Region.profileIndex (r : Region) : Fin 8 := (r.profile.setWidth 3 : BitVec 3).toFin

/-- The lowest-indexed entry that is valid and covers word `w` (R4). -/
def Tables.select (t : Tables) (w : WordAddr) : Option (Fin 16) :=
  (List.finRange 16).find? (fun i => t.regions[i].covers w)

/-- The bank number of the window the entry names, 0 for NONE (R5, R24). -/
def Tables.bankOf (t : Tables) (r : Region) : Nat :=
  match r.attached with
  | some k => t.windows[k].bank.toNat
  | none => 0

/-- The physical byte address: offset, bank and displacement terms modulo 16 MiB (R5). -/
def physByte (r : Region) (bank : Nat) (h : Nat) : Nat :=
  (r.offset.toNat * 4096 + bank * (r.units * 4096) + (h - r.base.toNat * 4096)) % 2 ^ 24

/-- The physical word address: the byte address with its lowest bit dropped (R5). -/
def physWord (r : Region) (bank : Nat) (w : WordAddr) : WordAddr :=
  BitVec.ofNat 23 (physByte r bank (2 * w.toNat) / 2)

/-- What a port presents to the decoder (R9). -/
structure Presented where
  source : Source
  dir : Direction
  word : WordAddr
  lanes : Lanes
  data : Option BusWord
  /-- Burst length for the Auxiliary Port, 1 for the System Port. -/
  words : Nat
  /-- LOCK_N asserted with a System Port access. -/
  lock : Bool
deriving DecidableEq, Repr

/-- The last word of a burst lies outside the selected entry's span; the sum does not wrap (R11). -/
def splits (r : Region) (p : Presented) : Bool := !r.spans (2 * (p.word.toNat + p.words - 1))

/-- Checks 2 to 6 of R10 for the selected entry and its chip select's class, in order; the first that fails names the
fault. -/
def decodeCheck (p : Presented) (r : Region) (cls : CsClass) : Option FaultKind :=
  if r.cls = .none then some .noAccess
  else if p.source = .ap ∧ r.aux = false then some .auxDenied
  else if p.dir = .write ∧ r.cls = .read then some .readOnlyWrite
  else if cls = .unused then some .targetAbsent
  else if p.source = .ap ∧ splits r p = true then some .burstSplit
  else none

/-- The disposition of an access that passes every check (R12 for the System Port, R13 for the Auxiliary Port). -/
def dispositionOf (p : Presented) (r : Region) (cls : CsClass) (lock : Option Lock) (t : Target) : Disposition :=
  match p.source, p.dir with
  | .ap, _ => .strict
  | .sp, .read =>
    if p.lock then .lockedRead else if r.cls = .strict then .strict else .forwardCheck
  | .sp, .write =>
    if lock = some { cs := t.cs, phys := t.phys } then .lockedWrite
    else if r.cls = .posted ∧ (cls = .sram ∨ cls = .dram) then .posted
    else .strict

/-- Decode: select an entry, form the physical address, apply the checks and the disposition (R4 to R14). `lock` is the
System Port's lock state, read for a System Port write (R9). -/
def Tables.decode (t : Tables) (lock : Option Lock) (p : Presented) : Descriptor :=
  let burst := match p.source with
    | .sp => none
    | .ap => some p.words
  match t.select p.word with
  | none =>
    { source := p.source, dir := p.dir, word := p.word, lanes := p.lanes, data := p.data, burst, target := none,
      disposition := .fault .decodeMiss }
  | some i =>
    let r := t.regions[i]
    let cls := t.chipsels[r.cs].cls
    let tg : Target := { region := i, cs := r.cs, phys := physWord r (t.bankOf r) p.word, profile := r.profileIndex }
    { source := p.source, dir := p.dir, word := p.word, lanes := p.lanes, data := p.data, burst, target := some tg,
      disposition := match decodeCheck p r cls with
        | some k => .fault k
        | none => dispositionOf p r cls lock tg }

/-- What the System Port presents (R64): write data for a write only. -/
def spPresented (t : SpTerminals) : Presented :=
  { source := .sp, dir := spDirection t, word := t.a, lanes := spLanes t,
    data := match spDirection t with
      | .read => none
      | .write => some t.d
    words := 1, lock := t.lock }

/-- What the Auxiliary Port presents (R87): lanes UL, no data. -/
def apPresented (t : ApTerminals) : Presented :=
  { source := .ap, dir := apDirection t, word := t.a, lanes := .ul, data := none, words := apWords t, lock := false }

/-- One window after a System Port write of `data` to host word `w` in `lanes`: it captures D[5:0] when its capture enable is
yes, its capture word address is `w` and the lanes include L (R25). -/
def Window.capture (x : Window) (w : WordAddr) (lanes : Lanes) (data : BusWord) : Window :=
  if x.enable && lanes.hasL && x.addr == w then { x with bank := data.setWidth 6 } else x

/-- Bank capture of a decoded System Port access: a write that did not fault, into every window that captures (R25, R27). -/
def Tables.capture (t : Tables) (d : Descriptor) : Tables :=
  match d.disposition, d.dir, d.data with
  | .fault _, _, _ => t
  | _, .write, some w => { t with windows := t.windows.map (·.capture d.word d.lanes w) }
  | _, _, _ => t

/-- The record of a valid entry passes the four checks of R18. -/
def Region.ok (r : Region) : Bool :=
  r.sizeCode.toNat ≤ 12 && r.base.toNat % r.units == 0 && (r.window.toNat < 4 || r.window == 0xFF) && r.profile.toNat < 8

end Sys2Proof.Machine
end

