-- ==== Sys2Proof/Machine/Ops.lean ====
section
/-! DEFINITION. The shared operations that several commands are made of: presenting an access, taking a removal, answering a
completion, committing a Management Port frame, a CK period. -/

namespace Sys2Proof.Machine

/-! ### System Port -/

/-- The lock ends (R80). -/
def State.endLock (s : State) : State := s.setSp { s.sp with lock := none }

/-- The wake check of a System Port access (R68). -/
def State.spWakeCheck (s : State) (d : Descriptor) : State :=
  s.setAccess (.hold (if s.descHeld d then .wake else .grant) d)

/-- A posted write is offered to the queue: merged or appended it is answered, otherwise it is held in FULL (R36 to R38,
R66, R74). -/
def State.offerPosted (s : State) (d : Descriptor) (t : Target) : State :=
  match offer s.queue (newEntry d t) with
  | some q => (s.setQueue q).setAccess (.answered .data none d)
  | none => s.setAccess (.hold .full d)

/-- The access is answered from the queue: a FORWARD-CHECK read that hits (R51). -/
def State.forwardHit (s : State) (d : Descriptor) : Option BusWord :=
  match d.disposition, d.target with
  | .forwardCheck, some t =>
    match forwardCheck s.queue t d.lanes with
    | .hit w => some w
    | _ => none
  | _, _ => none

/-- Where an access that is neither faulted nor a forward hit goes first (4.3): a posted write to the queue; an access that the
queue holds back to ORDER; any other to the wake check. A partial read and an ordered access wait by the same test (R52, R55). -/
def State.placeSp (s : State) (d : Descriptor) : State :=
  match d.disposition, d.target with
  | .posted, some t => s.offerPosted d t
  | _, _ => if orderWaits s.queue d then s.setAccess (.hold .order d) else s.spWakeCheck d

/-- A decoded System Port access that did not fault is handed on (R17, R157). -/
def State.handOnSp (s : State) (d : Descriptor) : State :=
  match s.forwardHit d with
  | some w => s.setAccess (.answered .data (some w) d)
  | none => (s.placeSp d).autoResume d

/-- The word driven with an ABORT answer: FFFFh for a read, high impedance for a write (R72, R75). -/
def abortWord (d : Descriptor) : Option BusWord :=
  match d.dir with
  | .read => some 0xFFFF
  | .write => none

/-- An access is presented on the System Port: a held lock ends at a read's presentation, the access is decoded, a write that
is not the LOCKED write ends the lock, a fault is recorded and refused, and any other access makes its capture and is handed on
(R64, R80, R15, R25, R26, R17). -/
def State.presentSp (s : State) (t : SpTerminals) : State :=
  let s := if t.rd then s.endLock else s
  let d := s.tables.decode s.sp.lock (spPresented t)
  let s := if d.disposition = .lockedWrite then s else s.endLock
  match d.disposition with
  | .fault k => (s.deliver (d.spOccurrence k)).setAccess (.answered .abort (abortWord d) d)
  | _ => (s.setTables (s.tables.capture d)).handOnSp d

/-- The word a completed read drives: the device's bytes, FFh in a lane not requested (R73); nothing for a write. -/
def readWord (d : Descriptor) (taken : BusWord) : Option BusWord :=
  match d.dir with
  | .read => some (d.lanes.keep 0xFF taken)
  | .write => none

/-- The lock state after a System Port completion: a LOCKED read answered with OK while LOCK_N is asserted takes the lock (R77);
a LOCKED write's completion ends it (R79, R82); anything else leaves it. -/
def lockAfter (lock : Option Lock) (withdrawn : Bool) (d : Descriptor) (timedOut lockN : Bool) : Option Lock :=
  match d.disposition with
  | .lockedRead =>
    if !withdrawn && !timedOut && lockN then d.target.map (fun t => { cs := t.cs, phys := t.phys }) else lock
  | .lockedWrite => none
  | _ => lock

/-- The System Port's part of a completion (R70, R73 to R75, R77, R79, R82), the channel already FREE: the answer, or the drop
of a withdrawn access, the DEVICE_TIMEOUT occurrence, the lock, and then a deferred presentation if the terminals still stand. When the
withdrawn access times out and the deferred one faults, R75 and R15 give one occurrence each, in that order, where R164 says that an
event delivers at most one: the model delivers both (DESIGN CHOICE, log 33). -/
def State.completeSp (s : State) (w : WordTxn) (withdrawn : Bool) (d : Descriptor) (t : SpTerminals) : State :=
  let s := if w.timedOut then s.deliver (d.spOccurrence .deviceTimeout) else s
  let s := s.setSp { s.sp with lock := lockAfter s.sp.lock withdrawn d w.timedOut t.lock }
  if withdrawn then
    let again := s.sp.deferred && t.presents
    let s := s.setSp { s.sp with access := .idle, deferred := false }
    if again then s.presentSp t else s
  else if w.timedOut then s.setAccess (.answered .abort (abortWord d) d)
  else s.setAccess (.answered .data (readWord d w.taken) d)

/-! ### Auxiliary Port -/

/-- The wake check of an Auxiliary Port request (R91). -/
def State.apWakeCheck (s : State) (d : Descriptor) : State :=
  s.setApPhase (if s.descHeld d then .wake else .grant)

/-- The burst is a write burst that still takes beats: in ORDER, WAKE or GRANT with beats taken below n (R89). -/
def AuxPort.takesBeat (a : AuxPort) : Bool :=
  match a.phase, a.desc with
  | .order, some d => d.dir == .write && a.buffer.length < d.burst.getD 0
  | .wake, some d => d.dir == .write && a.buffer.length < d.burst.getD 0
  | .grant, some d => d.dir == .write && a.buffer.length < d.burst.getD 0
  | _, _ => false

/-- A beat is offered on AX_D with AX_DV: appended to the buffer, or ignored (R89). -/
def State.takeBeat (s : State) (b : BusWord) : State :=
  if s.ap.takesBeat then s.setAp { s.ap with buffer := s.ap.buffer ++ [b] } else s

/-- A request is presented on the Auxiliary Port (R87, R88): decode; a fault closes with ERR; otherwise the barrier set is taken
and the request enters ORDER or the wake check; a beat in the same period is taken (R89). -/
def State.presentAp (s : State) (t : ApTerminals) : State :=
  let d := s.tables.decode none (apPresented t)
  let fresh : AuxPort :=
    { s.ap with phase := .order, desc := some d, barrier := [], buffer := [], performed := 0, releaseSeen := false, axReq := true,
                closeLeft := none, beat := none }
  match d.disposition, d.target with
  | .fault k, _ => (s.setAp { fresh with phase := .closing .err }).deliver (d.apOccurrence k)
  | _, none => s
  | _, some tg =>
    let b := barrierOf s.queue tg (apWords t)
    let s := s.setAp { fresh with barrier := b }
    let s := if b.isEmpty then s.apWakeCheck d else s
    let s := s.autoResume d
    match t.beat with
    | some x => s.takeBeat x
    | none => s

/-- The port returns to IDLE with AX_REQ seen released: descriptor dropped, buffer emptied, release seen yes (R98, R99). -/
def AuxPort.toIdle (a : AuxPort) : AuxPort :=
  { a with phase := .idle, desc := none, barrier := [], buffer := [], releaseSeen := true, closeLeft := none, beat := none }

/-- The port enters CLOSING; when AX_REQ is already released it holds the answer for one CK period (R96 to R98, R100). -/
def AuxPort.close (a : AuxPort) (c : ClosingAnswer) (beat : Option BusWord) : AuxPort :=
  { a with phase := .closing c, beat, closeLeft := if a.axReq then none else some 1 }

/-! ### Removal of the head -/

/-- A System Port access after a removal: a write held in FULL is offered again (R38); an access held in ORDER whose condition is
met goes to the wake check (R58). -/
def State.releaseSp (s : State) : State :=
  match s.sp.access with
  | .hold .full d =>
    match d.target with
    | some t => s.offerPosted d t
    | none => s
  | .hold .order d => if orderWaits s.queue d then s else (s.spWakeCheck d).autoResume d
  | _ => s

/-- An Auxiliary Port request after a removal: its barrier set loses the head, and once empty the request goes to the wake check
(R57, R58, R90). -/
def State.releaseAp (s : State) : State :=
  match s.ap.phase, s.ap.desc with
  | .order, some d =>
    let b := barrierAfterRemoval s.ap.barrier
    let s := s.setAp { s.ap with barrier := b }
    if b.isEmpty then (s.apWakeCheck d).autoResume d else s
  | _, _ => s

/-- The head `e` leaves the queue `e :: rest` (R46, R47): LATE_WRITE on a timeout, then the re-examinations. -/
def State.removeHead (s : State) (e : Entry) (rest : List Entry) (timedOut : Bool) : State :=
  let s := s.setQueue rest
  let s := if timedOut then s.deliver e.lateWrite else s
  s.releaseSp.releaseAp

/-! ### Slices -/

/-- The slice goes to OFF with debt 0 and its timers stopped (R121, R143). -/
def Slice.toOff (sl : Slice) : Slice := { sl with state := .off, debt := 0, interval := none, exitTimer := none }

/-- The interval timer starts, copying the refresh interval (R137). -/
def Slice.startInterval (sl : Slice) (c : ChipSel) : Slice := { sl with interval := some c.interval, inForce := c.interval }

/-- The slice enters ACTIVE with debt 0 and starts its interval timer (R137, R140, R147). -/
def Slice.toActive (sl : Slice) (c : ChipSel) : Slice :=
  { sl with state := .active, debt := 0, exitTimer := none }.startInterval c

/-- What a REFRESH completion does to the slice, by its state (R140). -/
def Slice.refreshed (sl : Slice) (c : ChipSel) : Slice :=
  match sl.state with
  | .active => { sl with debt := sl.debt - 1 }
  | .warmup => if sl.debt ≤ 1 then sl.toActive c else { sl with debt := sl.debt - 1 }
  | _ => sl

/-! ### Management Port -/

/-- What a command performed at its commit point leaves: the part, the result code and the data bytes. -/
structure Reply where
  state : State
  result : Result
  data : List Byte

/-- A command that is performed with DONE. -/
def Reply.done (s : State) (data : List Byte) : Reply := { state := s, result := .done, data }

/-- A command that is refused: the part is unchanged and `n` data bytes are shifted out as FFh (R171). -/
def Reply.refuse (s : State) (r : Result) (n : Nat) : Reply := { state := s, result := r, data := List.replicate n 0xFF }

/-- The frame whose commit point is reached by the command with these bytes: RESET_N released, and the frame has received exactly them
and performed nothing yet (R171, R173, R178). -/
def State.committing (s : State) (bytes : List Byte) : Option Frame :=
  if s.resetAsserted then none
  else s.mp.frame.filter (fun f => f.result.isNone && f.received == bytes)

/-- The commit point of the frame in progress: the reply's part, with the result and the data bytes put in the frame and the
last-frame error flag cleared (R171, R173). Without a frame that has received these bytes nothing happens (logs 3 and 14). -/
def State.commit (s : State) (bytes : List Byte) (r : Reply) : State :=
  match s.committing bytes with
  | some f => r.state.setMp { s.mp with frame := some (f.perform r.result r.data), errorFlag := false }
  | none => s

/-- Draws a free value: the counter advances (log 13). -/
def State.draw (s : State) : State := { s with draws := s.draws + 1 }

/-! ### Time -/

/-- One CK period of a slice's timers. -/
def Slice.period (sl : Slice) : Slice :=
  { sl with interval := sl.interval.map (· - 1), exitTimer := sl.exitTimer.map (· - 1) }

/-- One of a slice's timers has run out. -/
def Slice.due (sl : Slice) : Bool := sl.interval == some 0 || sl.exitTimer == some 0

/-- Some event is due: its count has run out, or a frame's commit point is reached, and it has not been taken (log 2). -/
def State.due (s : State) : Bool :=
  s.channel.txn.any Txn.due || s.slices.toList.any Slice.due || s.ap.closeLeft == some 0 || s.mp.frame.any Frame.commitDue

/-- One CK period passes: every count falls by one, a read beat is no longer driven, and a byte that arrives on MSI is shifted into the
frame in progress, or ignored when there is none (R94, R98, R125, R130, R137, R147, R171; logs 1, 4, 14 and 28). -/
def State.period (s : State) : State :=
  { s with
    channel := { s.channel with txn := s.channel.txn.map Txn.period }
    slices := s.slices.map Slice.period
    ap := { s.ap with beat := none, closeLeft := s.ap.closeLeft.map (· - 1) }
    mp := { s.mp with frame := s.mp.frame.map (·.period (arriving s.msi)) }
    msi := MsiByte.advance s.msi }

/-- What a step does on an empty queue: one CK period, unless an event is due (logs 1 and 2). -/
def State.idleStep (s : State) : State := if s.due then s else s.period

end Sys2Proof.Machine
end

