-- ==== Sys2Proof/Machine/AuxPortCommands.lean ====
section
/-! DEFINITION. The Auxiliary Port's commands (chapter 5). -/

namespace Sys2Proof.Machine

/-- The Auxiliary Port can take a presentation: IDLE, release seen yes, RESET_N released (R87, R101). -/
def State.apReady (s : State) : Bool := !s.resetAsserted && s.ap.releaseSeen && s.ap.phase == .idle

/-- AP_PRESENTATION (R87): the request is taken and decoded. AX_REQ asserted at any other moment is no presentation; its level is
noted (R100, log 6). -/
def execApPresentation (t : ApTerminals) (s : State) : Host.Outcome State Fault Refusal :=
  .next (if s.apReady then (s.presentAp t).decide
    else if s.resetAsserted then s
    else s.setAp { s.ap with axReq := true })

/-- WRITE_BEAT (R89): the beat is stored, and the last one starts the request to the Arbiter (R92, R111); ignored where R89 says
so. -/
def execWriteBeat (d : BusWord) (s : State) : Host.Outcome State Fault Refusal :=
  .next (if !s.resetAsserted && s.ap.takesBeat then (s.takeBeat d).decide else s)

/-- The withdrawal of a request before its grant (R99): HOST_WITHDRAWN, patience cleared, IDLE. -/
def State.withdrawAp (s : State) : State :=
  let s := match s.ap.desc with
    | some d => s.deliver (d.apOccurrence .hostWithdrawn)
    | none => s
  (s.setAp s.ap.toIdle).setChannel { s.channel with patience := 0 }

/-- What the release of AX_REQ does, by the port state (R98 to R101): in IDLE it is seen released after a reset (log 8); a request
not yet granted is withdrawn; in BURST it is ignored but for its level; CLOSING ends, unless its one CK period is already
running (log 26). -/
def State.releaseAxReq (s : State) : State :=
  let s := s.setAp { s.ap with axReq := false }
  match s.ap.phase with
  | .idle => s.setAp { s.ap with releaseSeen := true }
  | .order => s.withdrawAp
  | .wake => s.withdrawAp
  | .grant => s.withdrawAp
  | .burst => s
  | .closing _ => if s.ap.closeLeft.isSome then s else s.setAp s.ap.toIdle

/-- AX_REQ_RELEASE (R98). -/
def execAxReqRelease (s : State) : Host.Outcome State Fault Refusal :=
  .next (if s.resetAsserted then s else s.releaseAxReq)

/-- CLOSING_PERIOD_END (R98): the one CK period of a CLOSING entered with AX_REQ already released has passed. -/
def execClosingPeriodEnd (s : State) : Host.Outcome State Fault Refusal :=
  .next (if s.resetAsserted then s
    else
      match s.ap.phase, s.ap.closeLeft with
      | .closing _, some 0 => s.setAp s.ap.toIdle
      | _, _ => s)

end Sys2Proof.Machine
end

