-- ==== Sys2Proof/Machine/CompletionCommands.lean ====
section
/-! DEFINITION. The completions that the Channel Sequencer reports to each holder (R132), and a burst word's end (R128). In every
completion event the channel becomes FREE, the holder takes the report, the Retention Controller tests its conditions and the
Arbiter decides (R110, log 9). -/

namespace Sys2Proof.Machine

/-- The word transaction on the channel whose phases have all run out, RESET_N released. -/
def State.endedWord (s : State) : Option WordTxn :=
  match s.resetAsserted, s.channel.txn with
  | false, some (.word w) => if w.phase = .ended then some w else none
  | _, _ => none

/-- The refresh or self-refresh transaction on the channel whose cycle length has run out, RESET_N released. -/
def State.endedSlice (s : State) (op : SliceOp) : Option Cs :=
  match s.resetAsserted, s.channel.txn with
  | false, some (.slice t) => if t.op = op ∧ t.left = 0 then some t.cs else none
  | _, _ => none

/-- SP_TRANSACTION_COMPLETION (R70, R73 to R75, R77, R79, R82). -/
def execSpTransactionCompletion (t : SpTerminals) (s : State) : Host.Outcome State Fault Refusal :=
  .next (match s.endedWord, s.sp.access with
    | some w, .channel withdrawn d =>
      if w.holder = .sp then ((s.setTxn none).completeSp w withdrawn d t).conclude else s
    | _, _ => s)

/-- DRAIN_COMPLETION (R46, R47, R38, R57, R58). -/
def execDrainCompletion (s : State) : Host.Outcome State Fault Refusal :=
  .next (match s.endedWord, s.queue with
    | some w, e :: rest =>
      if w.holder = .head then ((s.setTxn none).removeHead e rest w.timedOut).conclude else s
    | _, _ => s)

/-- The beat a read burst's word delivers (R94); none for a write burst. -/
def WordTxn.beat (w : WordTxn) : Option BusWord :=
  match w.dir with
  | .read => some w.taken
  | .write => none

/-- BURST_WORD_END (R128): a word other than the last has ended OK; a read's beat is delivered, the word is counted, and the next
word begins with its address on MA. -/
def execBurstWordEnd (s : State) : Host.Outcome State Fault Refusal :=
  .next (match s.endedWord with
    | some w =>
      if w.holder = .ap ∧ w.lastWord = false then
        let w' := { w with current := w.current + 1 }.beginWord
        (s.setAp { s.ap with performed := s.ap.performed + 1, beat := w.beat }).setChannel
          { s.channel with txn := some (.word w'), ma := w'.address }
      else s
    | none => s)

/-- The Auxiliary Port's part of a completion: END with the last word counted and its beat delivered (R96), or ERR with a
DEVICE_TIMEOUT of the failed word (R97). -/
def State.completeAp (s : State) (w : WordTxn) : State :=
  if w.timedOut then
    let s := match s.ap.desc with
      | some d => s.deliver (d.burstTimeout s.ap.performed)
      | none => s
    s.setAp (s.ap.close .err none)
  else s.setAp ({ s.ap with performed := s.ap.performed + 1 }.close .done w.beat)

/-- BURST_COMPLETION (R96, R97, R100). -/
def execBurstCompletion (s : State) : Host.Outcome State Fault Refusal :=
  .next (match s.endedWord with
    | some w =>
      if w.holder = .ap ∧ w.lastWord = true then ((s.setTxn none).completeAp w).conclude else s
    | none => s)

/-- REFRESH_COMPLETION (R130, R140). -/
def execRefreshCompletion (s : State) : Host.Outcome State Fault Refusal :=
  .next (match s.endedSlice .refresh with
    | some k => ((s.setTxn none).setSlice k (s.slices[k].refreshed s.tables.chipsels[k])).conclude
    | none => s)

/-- What a SELF_ENTER completion does to the slice (R145): ACTIVE enters SELF; OFF stays OFF. -/
def Slice.entered (sl : Slice) : Slice :=
  match sl.state with
  | .active => { sl with state := .self, debt := 0, interval := none, exitTimer := none }
  | _ => sl

/-- The command issued for `k` after its SELF_ENTER completion reaches the controller: cleared, or, when the slice has left for
OFF, a SELF_EXIT in the same event (R151, R155). -/
def afterSelfEnter (sl : Slice) : Option SelfCmd :=
  match sl.state with
  | .off => some .exit
  | _ => none

/-- SELF_ENTER_COMPLETION (R145, R151, R155). -/
def execSelfEnterCompletion (s : State) : Host.Outcome State Fault Refusal :=
  .next (match s.endedSlice .selfEnter with
    | some k =>
      (((s.setTxn none).setSlice k s.slices[k].entered).setRetention
        { s.retention with issued := s.retention.issued.set k (afterSelfEnter s.slices[k]) }).conclude
    | none => s)

/-- What a SELF_EXIT completion does to the slice (R146): SELF enters WAKING and starts its exit timer; OFF stays OFF. -/
def Slice.exited (sl : Slice) (c : ChipSel) : Slice :=
  match sl.state with
  | .self => { sl with state := .waking, debt := 0, interval := none, exitTimer := some c.exitTime }
  | _ => sl

/-- SELF_EXIT_COMPLETION (R146, R159). -/
def execSelfExitCompletion (s : State) : Host.Outcome State Fault Refusal :=
  .next (match s.endedSlice .selfExit with
    | some k =>
      (((s.setTxn none).setSlice k (s.slices[k].exited s.tables.chipsels[k])).setRetention
        { s.retention with issued := s.retention.issued.set k none }).conclude
    | none => s)

end Sys2Proof.Machine
end

