-- ==== Sys2Proof/Machine/ManagementCommands.lean ====
section
/-! DEFINITION. The Management Port's commands (chapter 11). Each command other than FRAME_START and FRAME_END is the commit point of
the frame in progress, which has received the bytes that the command's operands spell (log 14). -/

namespace Sys2Proof.Machine

/-! ### Frames -/

/-- FRAME_START (R171, R172): MSEL_N falls; the summary byte is taken, and the first byte is the opcode's. A fall is taken only after
MSEL_N has been seen released since the last reset (R178), and while no frame is in progress. The first frame after a pin reset takes
its summary at the fall as any other does, so it shows an event that came between the release of RESET_N and the fall: R178 gives the
part's pin-reset state there, R172 the part at the fall, and the model follows R172 (DESIGN CHOICE, log 32). -/
def execFrameStart (s : State) : Host.Outcome State Fault Refusal :=
  .next (if !s.resetAsserted && s.mp.mselSeen && s.mp.frame.isNone then
    s.setMp { s.mp with frame := some { phase := .opcode, summary := s.summary, received := [], result := none, data := [] } }
    else s)

/-- FRAME_END (R171, R173, R178): MSEL_N rises; a frame whose command has not been performed is short and sets the last-frame error
flag; the bytes not yet shifted are lost. A rise with no frame is MSEL_N seen released (log 8). -/
def execFrameEnd (s : State) : Host.Outcome State Fault Refusal :=
  .next (if s.resetAsserted then s
    else
      match s.mp.frame with
      | some f => s.setMp { s.mp with frame := none, errorFlag := s.mp.errorFlag || f.result.isNone }
      | none => s.setMp { s.mp with mselSeen := true })

/-- The bytes of a frame with no payload. -/
def shortFrame (opcode arg : Byte) : List Byte := [opcode, arg]

/-- The bytes of a WRITE_ITEM frame. -/
def writeFrame (arg : Byte) (p : Payload) : List Byte := [opWriteItem, arg] ++ p.toList

/-- UNKNOWN_OPCODE (R173 checks 1 to 3): BAD_ITEM. A READ_ITEM's eight data bytes are FFh; the other refused frames have no data
(R171). A frame that the checks do not refuse is another row's command, and nothing happens (log 21). -/
def execUnknownOpcode (opcode arg : Byte) (p : Payload) (s : State) : Host.Outcome State Fault Refusal :=
  .next (if frameRefused opcode arg then
    s.commit (if opcode = opWriteItem then writeFrame arg p else shortFrame opcode arg)
      (.refuse s .badItem (if opcode = opReadItem then 8 else 0))
    else s)

/-- GET_SUMMARY's reply (R172): the summary taken again; whether it still shows the flag this commit clears is a free value
(log 11). -/
def summaryReply (s : State) : Reply :=
  if s.mp.errorFlag then .done s.draw [s.summaryWith (Config.summaryKeepsFlag s.draws)]
  else .done s [s.summaryWith false]

/-- GET_SUMMARY (R172). -/
def execGetSummary (arg : Byte) (s : State) : Host.Outcome State Fault Refusal :=
  .next (s.commit (shortFrame opGetSummary arg) (summaryReply s))

/-- The record of an item (R20, R31, R60, R123, R124, R150, R170, R174). -/
def itemReply (s : State) : Item → Reply
  | .region i => .done s s.tables.regions[i].bytes
  | .profile i => .done s s.tables.profiles[i].bytes
  | .chipsel k => .done s (chipSelBytes s.tables.chipsels[k] s.slices[k])
  | .bankwin k => .done s s.tables.windows[k].bytes
  | .queue =>
    match s.queue with
    | [] => .done s.draw (queueBytes [] s.tables.watermark (Config.absentHeadCs s.draws))
    | e :: rest => .done s (queueBytes (e :: rest) s.tables.watermark 0)
  | .alert => .done s s.faults.bytes
  | .retention => .done s s.retention.bytes
  | .ident => .done s identBytes

/-- READ_ITEM (R174); an argument that names no item is refused with BAD_ITEM (R173 check 2). -/
def execReadItem (arg : Byte) (s : State) : Host.Outcome State Fault Refusal :=
  .next (s.commit (shortFrame opReadItem arg)
    (match itemOf arg with
      | some i => itemReply s i
      | none => .refuse s .badItem 8))

/-! ### Writing items -/

/-- WRITE_REGION (R18): a record whose valid field is yes must pass the four checks; the entry is replaced as a whole. -/
def regionReply (s : State) (i : Fin 16) (r : Region) : Reply :=
  if r.valid && !r.ok then .refuse s .badValue 0
  else .done (s.setTables { s.tables with regions := s.tables.regions.set i r }) []

def execWriteRegion (i : Fin 16) (p : Payload) (s : State) : Host.Outcome State Fault Refusal :=
  .next (s.commit (writeFrame (itemArg 1 i) p) (regionReply s i (regionOf p)))

/-- WRITE_PROFILE (R124): every field within its range, and the profile is replaced as a whole. -/
def profileReply (s : State) (i : Fin 8) : Option Profile → Reply
  | none => .refuse s .badValue 0
  | some x => .done (s.setTables { s.tables with profiles := s.tables.profiles.set i x }) []

def execWriteProfile (i : Fin 8) (p : Payload) (s : State) : Host.Outcome State Fault Refusal :=
  .next (s.commit (writeFrame (itemArg 2 i) p) (profileReply s i (profileOf p)))

/-- Check 1 of R119: the ranges; the upper bounds hold by the fields' widths. -/
def ChipSel.inRange (c : ChipSel) : Bool := 64 ≤ c.interval && 4 ≤ c.cycle && 1 ≤ c.threshold && 16 ≤ c.exitTime

/-- A System Port write held in FULL names chip select `k` (R120). -/
def State.fullHeldFor (s : State) (k : Cs) : Bool :=
  match s.sp.access with
  | .hold .full d => (d.target.map (·.cs)) == some k
  | _ => false

/-- A class change of `k` is refused (R120). -/
def State.classChangeRefused (s : State) (k : Cs) : Bool :=
  s.queue.any (·.cs == k) || s.fullHeldFor k || (s.channel.txn.map (·.cs)) == some k
    || s.retention.state != .running || s.retention.issued[k].isSome

/-- A word or burst transaction for `k` is on the channel (R122). -/
def Channel.wordFor (c : Channel) (k : Cs) : Bool :=
  match c.txn with
  | some (.word w) => w.cs == k
  | _ => false

/-- A change of refresh enable from `old` to `new` is refused (R122). -/
def State.enableChangeRefused (s : State) (k : Cs) (old new : Bool) : Bool :=
  match old, new with
  | false, true => s.retention.state != .running || s.retention.issued[k].isSome || s.channel.wordFor k
  | true, false => s.slices[k].state == .self || s.slices[k].state == .waking
  | _, _ => false

/-- The checks of R119 in order; none when every one passes. -/
def State.chipselCheck (s : State) (k : Cs) (c : ChipSel) : Option Result :=
  let old := s.tables.chipsels[k]
  if !c.inRange then some .badValue
  else if c.enable && c.cls != .dram then some .badValue
  else if c.cls != old.cls && s.classChangeRefused k then some .wrongState
  else if s.enableChangeRefused k old.enable c.enable then some .wrongState
  else none

/-- The slice enters WARMUP with debt 8, its timers stopped (R142). -/
def Slice.toWarmup (sl : Slice) : Slice := { sl with state := .warmup, debt := 8, interval := none, exitTimer := none }

/-- The slice effects of a descriptor change that is taken (R121, R122, R142, R143): a class change away from DRAM, and a disable in
WARMUP or ACTIVE, put the slice in OFF and take it from the participant set (R151); an enable enters WARMUP. -/
def State.sliceEffects (s : State) (k : Cs) (old new : ChipSel) : State :=
  if old.cls = .dram ∧ new.cls ≠ .dram then (s.setSlice k s.slices[k].toOff).depart k
  else
    match old.enable, new.enable with
    | false, true => s.setSlice k s.slices[k].toWarmup
    | true, false => (s.setSlice k s.slices[k].toOff).depart k
    | _, _ => s

/-- WRITE_CHIPSEL (R119 to R122, R142 to R144). -/
def chipselReply (s : State) (k : Cs) (c : ChipSel) : Reply :=
  match s.chipselCheck k c with
  | some r => .refuse s r 0
  | none =>
    .done ((s.setTables { s.tables with chipsels := s.tables.chipsels.set k c }).sliceEffects k s.tables.chipsels[k] c).conclude []

def execWriteChipsel (k : Cs) (p : Payload) (s : State) : Host.Outcome State Fault Refusal :=
  .next (s.commit (writeFrame (itemArg 3 k) p) (chipselReply s k (chipSelOf p)))

/-- WRITE_BANKWIN (R29): the window is replaced as a whole when the bank number is 0 to 63. -/
def bankwinReply (s : State) (k : Fin 4) : Option Window → Reply
  | none => .refuse s .badValue 0
  | some x => .done (s.setTables { s.tables with windows := s.tables.windows.set k x }) []

def execWriteBankwin (k : Fin 4) (p : Payload) (s : State) : Host.Outcome State Fault Refusal :=
  .next (s.commit (writeFrame (itemArg 4 k) p) (bankwinReply s k (windowOf p)))

/-- WRITE_QUEUE_WATERMARK (R42): a watermark of 4 to 16. -/
def watermarkReply (s : State) (n : Nat) : Reply :=
  if 4 ≤ n ∧ n ≤ 16 then .done (s.setTables { s.tables with watermark := n }) [] else .refuse s .badValue 0

def execWriteQueueWatermark (p : Payload) (s : State) : Host.Outcome State Fault Refusal :=
  .next (s.commit (writeFrame (itemArg 5 0) p) (watermarkReply s p[1].toNat))

/-- WRITE_ALERT_ENABLES (R170): the five enables are replaced together. -/
def execWriteAlertEnables (p : Payload) (s : State) : Host.Outcome State Fault Refusal :=
  .next (s.commit (writeFrame (itemArg 6 0) p) (.done (s.setFaults { s.faults with enables := enablesOf p }) []))

/-! ### Fault log and alert -/

/-- The oldest record's bytes, or the empty marker (R166, R167). -/
def FaultUnit.oldest (f : FaultUnit) : List Byte :=
  match f.log with
  | [] => emptyMarkerBytes f.serial
  | r :: _ => r.bytes

/-- POP_FAULT (R166): the oldest record is returned and removed, or the empty marker is returned. -/
def execPopFault (arg : Byte) (s : State) : Host.Outcome State Fault Refusal :=
  .next (s.commit (shortFrame opPopFault arg) (.done (s.setFaults { s.faults with log := s.faults.log.tail }) s.faults.oldest))

/-- PEEK_FAULT (R167): the same without removing. -/
def execPeekFault (arg : Byte) (s : State) : Host.Outcome State Fault Refusal :=
  .next (s.commit (shortFrame opPeekFault arg) (.done s s.faults.oldest))

/-- CLEAR_CAUSES (R169): the named sticky causes are cleared, and the dropped count when DROP is named. -/
def FaultUnit.clearCauses (f : FaultUnit) (mask : Byte) : FaultUnit :=
  { f with causes := f.causes.clear mask, dropped := if mask.getLsbD 3 then 0 else f.dropped }

def execClearCauses (arg mask : Byte) (s : State) : Host.Outcome State Fault Refusal :=
  .next (s.commit (shortFrame opClearCauses arg ++ [mask]) (.done (s.setFaults (s.faults.clearCauses mask)) []))

/-! ### Retention -/

/-- The participant set chosen on entry to DRAINING: class DRAM with the slice ACTIVE or WARMUP (R151). -/
def State.chooseParticipants (s : State) : Vector Bool 4 :=
  Vector.ofFn (fun k : Fin 4 =>
    s.tables.chipsels[k].cls == .dram && (s.slices[k].state == .active || s.slices[k].state == .warmup))

/-- ENTER_RETENTION's reply, by the retention state (R152). -/
def enterReply (s : State) : Reply :=
  match s.retention.state with
  | .running =>
    .done (s.setRetention { s.retention with state := .draining, begun := false, participants := s.chooseParticipants }).conclude []
  | .draining => .done s []
  | .retained => .done s []
  | .resuming => .refuse s .busy 0

def execEnterRetention (arg : Byte) (s : State) : Host.Outcome State Fault Refusal :=
  .next (s.commit (shortFrame opEnterRetention arg) (enterReply s))

/-- EXIT_RETENTION's reply, by the retention state (R158). -/
def exitReply (s : State) : Reply :=
  match s.retention.state with
  | .running => .done s []
  | .draining =>
    if s.retention.begun then .refuse s .busy 0
    else .done (s.setRetention { s.retention with state := .running, participants := Vector.replicate 4 false }) []
  | .retained => .done s.enterResuming.conclude []
  | .resuming => .done s []

def execExitRetention (arg : Byte) (s : State) : Host.Outcome State Fault Refusal :=
  .next (s.commit (shortFrame opExitRetention arg) (exitReply s))

/-! ### CONFIG_RESET -/

/-- The System Port has an access in HOLD. -/
def SysPort.inHold (p : SysPort) : Bool :=
  match p.access with
  | .hold _ _ => true
  | _ => false

/-- The Auxiliary Port has a request in ORDER, WAKE or GRANT. -/
def AuxPort.waiting (a : AuxPort) : Bool :=
  match a.phase with
  | .order => true
  | .wake => true
  | .grant => true
  | _ => false

/-- CONFIG_RESET is taken (R176): the six conditions. -/
def State.quiescent (s : State) : Bool :=
  s.queue.isEmpty && s.channel.txn.isNone && !s.sp.inHold && !s.ap.waiting && s.retention.state == .running
    && s.retention.issued.toList.all Option.isNone

/-- CONFIG_RESET's reply (R176): the tables and the watermark take their reset values and every slice goes to OFF. R30 says that with
a capture taken first CONFIG_RESET then returns the window to R23's values; by R62 and R176 the capturing write has by then filled the
queue, a hold or the channel, the command is refused with BUSY and the captured bank number stays. The model follows R62 and R176
(DESIGN CHOICE, log 30). -/
def configResetReply (s : State) : Reply :=
  if s.quiescent then .done ((s.setTables Tables.reset).setSlices (Vector.replicate 4 Slice.reset)) []
  else .refuse s .busy 0

def execConfigReset (arg : Byte) (s : State) : Host.Outcome State Fault Refusal :=
  .next (s.commit (shortFrame opConfigReset arg) (configResetReply s))

end Sys2Proof.Machine
end

