-- ==== Sys2Proof/Machine/ResetCommands.lean ====
section
/-! DEFINITION. Pin reset and its release (R49, R84, R85, R101, R116, R135, R136, R160, R161, R178). -/

namespace Sys2Proof.Machine

/-- PIN_RESET: every block takes its pin-reset state, from the moment RESET_N is asserted; work in progress is abandoned without
reports. The model's own queues and draw counter are kept. -/
def execPinReset (s : State) : Host.Outcome State Fault Refusal :=
  .next { State.reset with resetAsserted := true, draws := s.draws, msi := s.msi, pending := s.pending }

/-- RESET_RELEASE: RESET_N is released; each input that is released at that moment is seen so, the others are waited for (R85, R101,
R178; log 8). -/
def execResetRelease (l : ResetLevels) (s : State) : Host.Outcome State Fault Refusal :=
  .next (if s.resetAsserted then
    { s with
      resetAsserted := false
      sp := { s.sp with releaseSeen := l.spReleased }
      ap := { s.ap with releaseSeen := l.axReleased, axReq := !l.axReleased }
      mp := { s.mp with mselSeen := l.mselReleased } }
    else s)

end Sys2Proof.Machine
end

