-- ==== Sys2Proof/Machine/SequencerCommands.lean ====
section
/-! DEFINITION. The Channel Sequencer's commands within a word (chapter 7): the end of a phase, and the two ends of a ready wait. -/

namespace Sys2Proof.Machine

/-- The word transaction after an event of the word, nothing changing when the event does not stand (log 3). -/
def State.wordEvent (s : State) (f : WordTxn → Option WordTxn) : State :=
  match s.resetAsserted, s.channel.txn with
  | false, some (.word w) =>
    match f w with
    | some w' => s.setTxn (some (.word w'))
    | none => s
  | _, _ => s

/-- PHASE_END (R125): the count of the phase has run out, and the word moves to its next phase. -/
def execPhaseEnd (md : BusWord) (s : State) : Host.Outcome State Fault Refusal :=
  .next (s.wordEvent (·.phaseEnd md))

/-- MRDY_READY (R126): MRDY is sampled high in a ready wait, which ends the strobe. -/
def execMrdyReady (md : BusWord) (s : State) : Host.Outcome State Fault Refusal :=
  .next (s.wordEvent (·.ready md))

/-- READY_LIMIT_EXCEEDED (R127): the low sample past the limit ends the strobe, and the transaction will complete with TIMEOUT. -/
def execReadyLimitExceeded (s : State) : Host.Outcome State Fault Refusal :=
  .next (s.wordEvent (·.exceed))

end Sys2Proof.Machine
end

