-- ==== Sys2Proof/Machine/SystemPortCommands.lean ====
section
/-! DEFINITION. The System Port's commands (chapter 4). While RESET_N is asserted none of them acts (R84); a command whose
event's conditions do not stand changes nothing (log 3). -/

namespace Sys2Proof.Machine

/-- The System Port can take a presentation of these terminals: CE_N and exactly one strobe asserted, the access state IDLE,
release seen yes, RESET_N released (R64, R84, R85). -/
def State.spReady (s : State) (t : SpTerminals) : Bool :=
  !s.resetAsserted && s.sp.releaseSeen && s.sp.access == .idle && t.presents

/-- SP_PRESENTATION (R64): the access is taken and decoded, and the Arbiter decides if the channel is FREE (R111). -/
def execSpPresentation (t : SpTerminals) (s : State) : Host.Outcome State Fault Refusal :=
  .next (if s.spReady t then (s.presentSp t).decide else s)

/-- What the end of an access does, by the access state (R65): a normal end (R76), a withdrawal from HOLD with its HOST_WITHDRAWN
occurrence (R81), the withdrawn marker in CHANNEL (R82), or the end of a deferred presentation (R82). -/
def State.endAccess (s : State) : State :=
  match s.sp.access with
  | .idle => s
  | .answered _ _ _ => s.setAccess .idle
  | .hold _ d =>
    let s := s.deliver (d.spOccurrence .hostWithdrawn)
    let s := if d.disposition = .lockedWrite then s.endLock else s
    (s.setAccess .idle).decide
  | .channel false d => s.setAccess (.channel true d)
  | .channel true _ => s.setSp { s.sp with deferred := false }

/-- SP_ACCESS_END (R65). -/
def execSpAccessEnd (s : State) : Host.Outcome State Fault Refusal :=
  .next (if s.resetAsserted then s else s.endAccess)

/-- DEFERRED_PRESENTATION (R82): in CHANNEL with the withdrawn marker set, the presentation is deferred and nothing is taken from
the terminals. -/
def execDeferredPresentation (s : State) : Host.Outcome State Fault Refusal :=
  .next (if s.resetAsserted then s
    else
      match s.sp.access with
      | .channel true _ => s.setSp { s.sp with deferred := true }
      | _ => s)

/-- LOCK_N_RELEASE (R80): a held lock ends, and the Auxiliary Port is readmitted at the decision (R109, R111). -/
def execLockNRelease (s : State) : Host.Outcome State Fault Refusal :=
  .next (if s.resetAsserted || s.sp.lock.isNone then s else s.endLock.decide)

/-- SP_RELEASE_SEEN (R85): CE_N or both strobes are seen released after a reset. -/
def execSpReleaseSeen (s : State) : Host.Outcome State Fault Refusal :=
  .next (if s.resetAsserted then s else s.setSp { s.sp with releaseSeen := true })

end Sys2Proof.Machine
end

