-- ==== Sys2Proof/Machine/TimerCommands.lean ====
section
/-! DEFINITION. The slices' timers (R137, R138, R147). A timer's expiry is an event only when its count has run out (log 2, log 3). -/

namespace Sys2Proof.Machine

/-- INTERVAL_EXPIRY (R138): the timer of an ACTIVE slice restarts with the refresh interval copied afresh (R137); the debt rises by
one, or, at 8, the expiry is an overrun. A request raised at a FREE channel is decided at once (R111). -/
def execIntervalExpiry (k : Cs) (s : State) : Host.Outcome State Fault Refusal :=
  .next (
    let sl := s.slices[k]
    if s.resetAsserted = false ∧ sl.state = .active ∧ sl.interval = some 0 then
      let sl' := sl.startInterval s.tables.chipsels[k]
      if sl.debt < 8 then (s.setSlice k { sl' with debt := sl.debt + 1 }).decide
      else ((s.setSlice k sl').deliver (overrunOccurrence k)).decide
    else s)

/-- EXIT_TIMER_EXPIRY (R147): the WAKING slice enters ACTIVE with debt 0, its exit timer stops and its interval timer starts; the
Retention Controller is told (R159). -/
def execExitTimerExpiry (k : Cs) (s : State) : Host.Outcome State Fault Refusal :=
  .next (
    let sl := s.slices[k]
    if s.resetAsserted = false ∧ sl.state = .waking ∧ sl.exitTimer = some 0 then
      (s.setSlice k (sl.toActive s.tables.chipsels[k])).conclude
    else s)

end Sys2Proof.Machine
end

