-- ==== Sys2Proof/Machine/Dispatch.lean ====
section
/-! DEFINITION. One arm per command, each a call of its meaning. -/

namespace Sys2Proof.Machine

def exec (i : Instr) (s : State) : Host.Outcome State Fault Refusal :=
  match i with
  | .spPresentation t => Sys2Proof.Machine.execSpPresentation t s
  | .spAccessEnd => Sys2Proof.Machine.execSpAccessEnd s
  | .deferredPresentation => Sys2Proof.Machine.execDeferredPresentation s
  | .lockNRelease => Sys2Proof.Machine.execLockNRelease s
  | .spReleaseSeen => Sys2Proof.Machine.execSpReleaseSeen s
  | .apPresentation t => Sys2Proof.Machine.execApPresentation t s
  | .writeBeat d => Sys2Proof.Machine.execWriteBeat d s
  | .axReqRelease => Sys2Proof.Machine.execAxReqRelease s
  | .closingPeriodEnd => Sys2Proof.Machine.execClosingPeriodEnd s
  | .phaseEnd md => Sys2Proof.Machine.execPhaseEnd md s
  | .mrdyReady md => Sys2Proof.Machine.execMrdyReady md s
  | .readyLimitExceeded => Sys2Proof.Machine.execReadyLimitExceeded s
  | .spTransactionCompletion t => Sys2Proof.Machine.execSpTransactionCompletion t s
  | .drainCompletion => Sys2Proof.Machine.execDrainCompletion s
  | .burstWordEnd => Sys2Proof.Machine.execBurstWordEnd s
  | .burstCompletion => Sys2Proof.Machine.execBurstCompletion s
  | .refreshCompletion => Sys2Proof.Machine.execRefreshCompletion s
  | .selfEnterCompletion => Sys2Proof.Machine.execSelfEnterCompletion s
  | .selfExitCompletion => Sys2Proof.Machine.execSelfExitCompletion s
  | .intervalExpiry k => Sys2Proof.Machine.execIntervalExpiry k s
  | .exitTimerExpiry k => Sys2Proof.Machine.execExitTimerExpiry k s
  | .frameStart => Sys2Proof.Machine.execFrameStart s
  | .frameEnd => Sys2Proof.Machine.execFrameEnd s
  | .unknownOpcode opcode argument payload => Sys2Proof.Machine.execUnknownOpcode opcode argument payload s
  | .getSummary argument => Sys2Proof.Machine.execGetSummary argument s
  | .readItem argument => Sys2Proof.Machine.execReadItem argument s
  | .writeRegion index payload => Sys2Proof.Machine.execWriteRegion index payload s
  | .writeProfile index payload => Sys2Proof.Machine.execWriteProfile index payload s
  | .writeChipsel index payload => Sys2Proof.Machine.execWriteChipsel index payload s
  | .writeBankwin index payload => Sys2Proof.Machine.execWriteBankwin index payload s
  | .writeQueueWatermark payload => Sys2Proof.Machine.execWriteQueueWatermark payload s
  | .writeAlertEnables payload => Sys2Proof.Machine.execWriteAlertEnables payload s
  | .popFault argument => Sys2Proof.Machine.execPopFault argument s
  | .peekFault argument => Sys2Proof.Machine.execPeekFault argument s
  | .clearCauses argument mask => Sys2Proof.Machine.execClearCauses argument mask s
  | .enterRetention argument => Sys2Proof.Machine.execEnterRetention argument s
  | .exitRetention argument => Sys2Proof.Machine.execExitRetention argument s
  | .configReset argument => Sys2Proof.Machine.execConfigReset argument s
  | .pinReset => Sys2Proof.Machine.execPinReset s
  | .resetRelease levels => Sys2Proof.Machine.execResetRelease levels s

end Sys2Proof.Machine
end

