-- ==== Sys2Proof/Machine/Terminals.lean ====
section
/-! DEFINITION. The output terminals as functions of the state (R71, R72, R86, R125, R130, R131, R133, R170, R171). A Bool is true when
the terminal is asserted; none on a data line is high impedance. -/

namespace Sys2Proof.Machine

/-- WAIT_N (R71, R82). -/
def SysPort.waitN (p : SysPort) : Bool :=
  match p.access with
  | .idle => false
  | .hold _ _ => true
  | .channel withdrawn _ => !withdrawn || p.deferred
  | .answered _ _ _ => false

/-- ABORT_N (R72). -/
def SysPort.abortN (p : SysPort) : Bool :=
  match p.access with
  | .answered .abort _ _ => true
  | _ => false

/-- D[15:0] as driven by the port (R72, R73). -/
def SysPort.dOut (p : SysPort) : Option BusWord :=
  match p.access with
  | .answered _ w _ => w
  | _ => none

/-- AX_GNT (R86, R93). -/
def AuxPort.gnt (a : AuxPort) : Bool := a.phase == .burst

/-- AX_END (R86, R96). -/
def AuxPort.endN (a : AuxPort) : Bool := a.phase == .closing .done

/-- AX_ERR (R86, R97). -/
def AuxPort.errN (a : AuxPort) : Bool := a.phase == .closing .err

/-- What the bridge does with AX_D[15:0] and AX_DV (R86, R94, R95). -/
inductive AxBus where
  /-- Not driven by the bridge. -/
  | released
  /-- Driven, AX_DV released: between the beats of a read burst. The spec gives AX_D no word there, and none is given here (log 28). -/
  | quiet
  /-- Driven, AX_DV asserted, with this word. -/
  | beat (w : BusWord)
deriving DecidableEq, Repr

/-- The direction of the burst in progress. -/
def AuxPort.direction (a : AuxPort) : Option Direction := a.desc.map (·.dir)

/-- AX_D[15:0] and AX_DV as the bridge drives them: a beat for its CK period; otherwise driven while a read burst has the channel, and
not driven in any other state (R86, R94 to R96; log 28). -/
def AuxPort.axOut (a : AuxPort) : AxBus :=
  match a.beat with
  | some w => .beat w
  | none => if a.phase = .burst ∧ a.direction = some .read then .quiet else .released

/-- The memory terminals (7.8). -/
structure MemTerminals where
  ma : WordAddr
  mcs : Option Cs
  moe : Bool
  mwe : Bool
  mub : Bool
  mlb : Bool
  mref : Bool
  msr : Vector Bool 4
  md : Option BusWord
deriving DecidableEq, Repr

/-- The terminals at rest (R133). -/
def Channel.idleTerminals (c : Channel) : MemTerminals :=
  { ma := c.ma, mcs := none, moe := false, mwe := false, mub := false, mlb := false, mref := false, msr := c.msr, md := none }

/-- The strobe is asserted in the strobe phase and in the ready wait (R125, R126). -/
def Phase.strobed : Phase → Bool
  | .strobe => true
  | .readyWait => true
  | _ => false

/-- The chip select and lanes are asserted: in setup, strobe and hold, and between the words of a burst (R125, R128). -/
def WordTxn.selected (w : WordTxn) : Bool :=
  match w.phase with
  | .recovery => false
  | .ended => !w.lastWord
  | _ => true

/-- The word driven on MD by a write: the current word's data, FFh in a lane not written (R125, R128). -/
def WordTxn.mdOut (w : WordTxn) : Option BusWord :=
  match w.dir with
  | .read => none
  | .write => (w.data[w.current]?).map (w.lanes.keep 0xFF)

/-- The memory terminals (R125, R130, R131, R133). -/
def Channel.terminals (c : Channel) : MemTerminals :=
  match c.txn with
  | some (.word w) =>
    if w.selected then
      { c.idleTerminals with
        mcs := some w.cs
        moe := w.phase.strobed && w.dir == .read
        mwe := w.phase.strobed && w.dir == .write
        mub := w.lanes.hasU
        mlb := w.lanes.hasL
        md := w.mdOut }
    else c.idleTerminals
  | some (.slice t) =>
    match t.op with
    | .refresh => { c.idleTerminals with mcs := some t.cs, mref := true }
    | _ => c.idleTerminals
  | none => c.idleTerminals

/-- ALERT_N (R170). -/
def State.alertN (s : State) : Bool := s.faults.alert

/-- The byte that MSO carries in the present phase of a frame: the summary byte, 00h, the result code, the data byte, FFh (R171). -/
def Frame.mso (f : Frame) : Byte :=
  match f.phase with
  | .opcode => f.summary
  | .argument => 0
  | .payload => 0
  | .result => (f.result.map Result.code).getD 0
  | .data => f.data.headD 0xFF
  | .trailing => 0xFF

/-- MSO: the byte being shifted out of the frame in progress; none is high impedance, while MSEL_N is released and while RESET_N is
asserted (R171, R178). A MSEL_N that is low with no frame taken drives nothing either (log 32). -/
def State.mso (s : State) : Option Byte := if s.resetAsserted then none else s.mp.frame.map Frame.mso

end Sys2Proof.Machine
end

