-- ==== Sys2Proof/Safety.lean ====
section
/-! DEFINITION. The invariants that the claims are stated over. Each is kept by every step from every state that has it, reachable or
not, and State.reset has each; the rule of spec/ that states or rests on it is cited. -/

namespace Sys2Proof.Machine

/-! ### Views of the state -/

/-- The access the System Port holds, with its reason (R63). -/
def SysPort.held (p : SysPort) : Option (HoldReason × Descriptor) :=
  match p.access with
  | .hold r d => some (r, d)
  | _ => none

/-- The System Port's access on the channel (R63). -/
def SysPort.channelled (p : SysPort) : Option Descriptor :=
  match p.access with
  | .channel _ d => some d
  | _ => none

/-- The System Port write held in FULL (R66). -/
def SysPort.fullHeld (p : SysPort) : Option Descriptor :=
  match p.access with
  | .hold .full d => some d
  | _ => none

/-- The Auxiliary Port's request in GRANT (R92). -/
def AuxPort.granting (a : AuxPort) : Option Descriptor :=
  match a.phase with
  | .grant => a.desc
  | _ => none

/-- The System Port's access in GRANT (R69). -/
def SysPort.granting (p : SysPort) : Option Descriptor :=
  match p.access with
  | .hold .grant d => some d
  | _ => none

/-- The word or burst transaction on the channel (R117). -/
def Channel.word (c : Channel) : Option WordTxn :=
  match c.txn with
  | some (.word w) => some w
  | _ => none

/-- The refresh or self-refresh transaction on the channel (R117). -/
def Channel.slice (c : Channel) : Option SliceTxn :=
  match c.txn with
  | some (.slice t) => some t
  | _ => none

/-- The channel carries a word or burst transaction of holder `h` (R102). -/
def Channel.heldBy (c : Channel) (h : WordHolder) : Bool :=
  match c.txn with
  | some (.word w) => w.holder == h
  | _ => false

/-- The head entry's on-channel marker (R33, R45). -/
def headMarked : List Entry → Bool
  | [] => false
  | e :: _ => e.onChannel

/-! ### The invariants -/

/-- The counts stay in their ranges: the occupancy (R32), the log and the dropped count (R161), the patience count (R102) and the
watermark (R42). -/
def State.CountsInRange (s : State) : Prop :=
  s.queue.length ≤ 16 ∧ s.faults.log.length ≤ 8 ∧ s.faults.dropped ≤ 255 ∧ s.channel.patience ≤ 4
    ∧ 4 ≤ s.tables.watermark ∧ s.tables.watermark ≤ 16

/-- A valid region entry has a size code of 0 to 12, a base that is a multiple of 2^code, a window of 0 to 3 or NONE and a profile
of 0 to 7 (R2, R18). -/
def Region.Sound (r : Region) : Prop :=
  r.valid = true →
    r.sizeCode.toNat ≤ 12 ∧ r.base.toNat % 2 ^ r.sizeCode.toNat = 0 ∧ (r.window.toNat ≤ 3 ∨ r.window = 0xFF) ∧ r.profile.toNat ≤ 7

/-- The ranges of a chip-select descriptor's fields (R118), with refresh enable yes for class DRAM only. -/
def ChipSel.Sound (c : ChipSel) : Prop :=
  64 ≤ c.interval ∧ c.interval ≤ 65535 ∧ 4 ≤ c.cycle ∧ c.cycle ≤ 255 ∧ 1 ≤ c.threshold ∧ c.threshold ≤ 7
    ∧ 16 ≤ c.exitTime ∧ c.exitTime ≤ 65535 ∧ (c.enable = true → c.cls = .dram)

/-- The ranges of a timing profile's fields (R124). -/
def Profile.Sound (p : Profile) : Prop :=
  p.setup ≤ 7 ∧ 1 ≤ p.strobe ∧ p.strobe ≤ 31 ∧ p.hold ≤ 7 ∧ p.recovery ≤ 15 ∧ 16 ≤ p.limit ∧ p.limit ≤ 1023

/-- The configuration tables hold legal records only. -/
def Tables.Sound (t : Tables) : Prop :=
  (∀ i : Fin 16, t.regions[i].Sound) ∧ (∀ k : Cs, t.chipsels[k].Sound) ∧ (∀ i : Fin 8, t.profiles[i].Sound)

/-- The class of a chip select that posted writes may target (R8, R34). -/
def CsClass.posts (c : CsClass) : Prop := c = .sram ∨ c = .dram

/-- Every queue entry targets a chip select of class SRAM or DRAM, and so does a write held in FULL (R34). -/
def State.QueueTargetsPosting (s : State) : Prop :=
  (∀ e ∈ s.queue, (s.tables.chipsels[e.cs].cls).posts)
    ∧ ∀ d ∈ s.sp.fullHeld, ∀ t ∈ d.target, (s.tables.chipsels[t.cs].cls).posts

/-- A slice's debt is 0 to 8, and 0 in OFF, SELF and WAKING; the interval timer runs in ACTIVE only, the exit timer in WAKING and only
there (R136, R137, R147). -/
def Slice.Sound (sl : Slice) : Prop :=
  sl.debt ≤ 8 ∧ (sl.state = .off ∨ sl.state = .self ∨ sl.state = .waking → sl.debt = 0)
    ∧ (sl.interval.isSome = true → sl.state = .active) ∧ (sl.exitTimer.isSome = true ↔ sl.state = .waking)

/-- While the channel is FREE no request stands (R111). -/
def State.NoRequestAtFreeChannel (s : State) : Prop := s.channel.txn = none → s.requests = []

/-- While a lock is held the queue holds no entry for its chip select (R78). The other two clauses carry it: a LOCKED read past its
ORDER hold finds no such entry, and a write held in FULL has ended the lock. -/
def State.LockClearsQueue (s : State) : Prop :=
  (∀ l ∈ s.sp.lock, ∀ e ∈ s.queue, e.cs ≠ l.cs)
    ∧ (∀ x ∈ s.sp.held, x.1 = .wake ∨ x.1 = .grant → x.2.disposition = .lockedRead →
        ∀ t ∈ x.2.target, ∀ e ∈ s.queue, e.cs ≠ t.cs)
    ∧ (∀ d ∈ s.sp.channelled, d.disposition = .lockedRead → ∀ t ∈ d.target, ∀ e ∈ s.queue, e.cs ≠ t.cs)
    ∧ (s.sp.fullHeld.isSome = true → s.sp.lock = none)

/-- The holder named by the transaction record is the requester whose own state says it has the channel: the System Port in CHANNEL
(R70), the Auxiliary Port in BURST (R93), the head with its marker set (R45); no entry behind the head is marked. -/
def State.HolderAgrees (s : State) : Prop :=
  s.channel.heldBy .sp = s.sp.channelled.isSome ∧ s.channel.heldBy .ap = (s.ap.phase == .burst)
    ∧ s.channel.heldBy .head = headMarked s.queue ∧ ∀ e ∈ s.queue.tail, e.onChannel = false

/-- No word or burst transaction is on the channel for a chip select whose slice is WARMUP, SELF or WAKING (R148). The other clauses
carry it: a slice out of OFF belongs to a DRAM chip select, and no access in GRANT meets the wake condition (R69, R92). -/
def State.NoWordWhileAsleep (s : State) : Prop :=
  (∀ w ∈ s.channel.word, s.slices[w.cs].state.wakes = false)
    ∧ (∀ k : Cs, s.slices[k].state ≠ .off → s.tables.chipsels[k].cls = .dram)
    ∧ (∀ d ∈ s.sp.granting, s.descHeld d = false) ∧ ∀ d ∈ s.ap.granting, s.descHeld d = false

/-- What the Retention Controller's state says of chip select `k`: its slice, its participation and the command issued for it (R150,
R151, R154, R155, R159). -/
def State.RetentionSoundAt (s : State) (k : Cs) : Prop :=
  match s.retention.participants[k], s.retention.state with
  | true, .running => False
  | true, .draining =>
    if s.retention.begun = true then
      (s.slices[k].state = .active ∧ s.retention.issued[k] = some .enter)
        ∨ (s.slices[k].state = .self ∧ s.retention.issued[k] = none)
    else (s.slices[k].state = .warmup ∨ s.slices[k].state = .active) ∧ s.retention.issued[k] = none
  | true, .retained => s.slices[k].state = .self ∧ s.retention.issued[k] = none
  | true, .resuming =>
    (s.slices[k].state = .self ∧ s.retention.issued[k] = some .exit)
      ∨ ((s.slices[k].state = .waking ∨ s.slices[k].state = .active) ∧ s.retention.issued[k] = none)
  | false, .running =>
    s.slices[k].state ≠ .self ∧ s.slices[k].state ≠ .waking ∧ (s.retention.issued[k] ≠ none → s.slices[k].state = .off)
  | false, .draining => s.slices[k].state = .off
  | false, .retained => s.slices[k].state = .off
  | false, .resuming => s.slices[k].state = .off

/-- The command issued that a self-refresh transaction performs. -/
def SliceOp.command : SliceOp → Option SelfCmd
  | .refresh => none
  | .selfEnter => some .enter
  | .selfExit => some .exit

/-- The Retention Controller agrees with the slices, the channel and the queue; in RETAINED no queue entry and no write held in FULL
is for a participant (R150, R151, R155, R156, R157). -/
def State.RetentionSound (s : State) : Prop :=
  (∀ k : Cs, s.RetentionSoundAt k) ∧ (s.retention.begun = true → s.retention.state = .draining)
    ∧ (∀ k : Cs, s.slices[k].state ≠ .off → s.tables.chipsels[k].cls = .dram)
    ∧ (∀ t ∈ s.channel.slice, ∀ c ∈ t.op.command, s.retention.issued[t.cs] = some c)
    ∧ (s.retention.state = .retained →
        (∀ e ∈ s.queue, s.retention.participants[e.cs] = false) ∧ ∀ d ∈ s.sp.fullHeld, s.forParticipant d = false)

/-- The Auxiliary Port's fields agree with its state (R86): a descriptor in every state but IDLE, a burst length of 1 to 8 with no
more beats taken than that, a barrier set of places in the queue, non-empty in ORDER and present there only (R56, R57). -/
def State.BurstSound (s : State) : Prop :=
  (s.ap.phase = .idle ↔ s.ap.desc = none)
    ∧ (∀ d ∈ s.ap.desc, ∃ n, d.burst = some n ∧ 1 ≤ n ∧ n ≤ 8 ∧ s.ap.buffer.length ≤ n)
    ∧ (s.ap.phase = .order ↔ s.ap.barrier ≠ []) ∧ ∀ p ∈ s.ap.barrier, p < s.queue.length

/-- The frame in progress is where its phase says (R171): up to the commit point it holds no data and the bytes received are those of
the parts before and in the phase, no more than the opcode's command has; after the command it has data left in its data bytes and
none in the trailing ones. -/
def Frame.Sound (f : Frame) : Prop :=
  match f.result with
  | none =>
    f.data = [] ∧
      match f.received with
      | [] => f.phase = .opcode
      | [_] => f.phase = .argument
      | op :: rest => rest.length ≤ 1 + payloadBytes op ∧ f.phase = if payloadBytes op = 0 then .argument else .payload
  | some _ => f.phase = .result ∨ (f.phase = .data ∧ f.data ≠ []) ∨ (f.phase = .trailing ∧ f.data = [])

/-- The frame in progress, if any, is where its phase says (R171). -/
def State.FrameSound (s : State) : Prop := ∀ f ∈ s.mp.frame, f.Sound

/-! ### The vocabulary of the claims about single commands -/

/-- The System Port takes these terminals as a presentation (R64, R85). -/
def State.Presented (s : State) (t : SpTerminals) : Prop :=
  s.resetAsserted = false ∧ s.sp.releaseSeen = true ∧ s.sp.access = .idle ∧ t.ce = true ∧ t.rd ≠ t.wr

/-- The descriptor of a presented System Port access: a read ends a held lock before its decode (R80). -/
def State.spDecoded (s : State) (t : SpTerminals) : Descriptor :=
  s.tables.decode (if t.rd = true then none else s.sp.lock) (spPresented t)

/-- The Auxiliary Port takes a presentation (R87, R101). -/
def State.ApPresented (s : State) : Prop :=
  s.resetAsserted = false ∧ s.ap.releaseSeen = true ∧ s.ap.phase = .idle

/-- The descriptor of a presented burst (R87). -/
def State.apDecoded (s : State) (t : ApTerminals) : Descriptor := s.tables.decode none (apPresented t)

/-- The disposition is a fault (R14). -/
def Descriptor.faulted (d : Descriptor) : Bool :=
  match d.disposition with
  | .fault _ => true
  | _ => false

/-- The wake condition of R68 and R91 for chip select `k`. -/
def State.WakeCondition (s : State) (k : Cs) : Prop :=
  (s.tables.chipsels[k].cls = .dram
      ∧ (s.slices[k].state = .warmup ∨ s.slices[k].state = .self ∨ s.slices[k].state = .waking))
    ∨ (s.retention.participants[k] = true
      ∧ ((s.retention.state = .draining ∧ s.retention.begun = true) ∨ s.retention.state = .retained
        ∨ s.retention.state = .resuming))

/-- The controller in RESUMING with a SELF_EXIT issued for every participant (R159). -/
def Retention.resumed (r : Retention) : Retention :=
  { r with
    state := .resuming
    begun := false
    issued := Vector.ofFn (fun k : Fin 4 => if r.participants[k] = true then some .exit else r.issued[k]) }

/-- The controller after the decode of an access to `k` that is neither faulted nor a forward hit (R157). -/
def Retention.afterAccess (r : Retention) (k : Cs) : Retention :=
  if r.state = .retained ∧ r.participants[k] = true then r.resumed else r

/-- The device word of an entry's target after the entry has drained onto `m` (R45, R46). -/
def Entry.writeInto (e : Entry) (m : BusWord) : BusWord :=
  joinBytes (if e.lanes.hasU then upper e.data else upper m) (if e.lanes.hasL then lower e.data else lower m)

/-- The device word at target `t`, `m` before, once every entry of the queue has drained with OK, oldest first (R32, R35). -/
def drainedWord (q : List Entry) (t : Target) (m : BusWord) : BusWord :=
  q.foldl (fun x e => if e.cs = t.cs ∧ e.phys = t.phys then e.writeInto x else x) m

/-- The word driven on D[15:0] for a read answered with DATA: FFh in a lane not requested (R73). -/
def laneWord (m : Lanes) (x : BusWord) : BusWord :=
  joinBytes (if m.hasU then upper x else 0xFF) (if m.hasL then lower x else 0xFF)

/-- The word driven on D[15:0] with ABORT: FFFFh for a read, high impedance for a write (R72, R75). -/
def abortDriven : Direction → Option BusWord
  | .read => some 0xFFFF
  | .write => none

/-- The lock state after a System Port completion that is answered (R77, R79). -/
def lockAfterAnswer (lock : Option Lock) (d : Descriptor) (timedOut lockN : Bool) : Option Lock :=
  match d.disposition with
  | .lockedWrite => none
  | .lockedRead =>
    if timedOut = false ∧ lockN = true then d.target.map (fun t => { cs := t.cs, phys := t.phys }) else lock
  | _ => lock

/-- Word transaction `w` is on the channel, its phases run out, and its completion or word end is to be reported (R128, R132). -/
def State.WordEnded (s : State) (w : WordTxn) (h : WordHolder) : Prop :=
  s.resetAsserted = false ∧ s.channel.txn = some (.word w) ∧ w.phase = .ended ∧ w.holder = h

/-- A refresh or self-refresh transaction of `k` is on the channel with its cycle length run out (R130, R131). -/
def State.SliceEnded (s : State) (k : Cs) (op : SliceOp) : Prop :=
  s.resetAsserted = false ∧ ∃ t, s.channel.txn = some (.slice t) ∧ t.cs = k ∧ t.op = op ∧ t.left = 0

/-- Frame `f` is in progress, has received these bytes and nothing else, and its command has not been performed (R171, R173). -/
def State.AtCommit (s : State) (f : Frame) (bytes : List Byte) : Prop :=
  s.resetAsserted = false ∧ s.mp.frame = some f ∧ f.result = none ∧ f.received = bytes

/-- The command has been performed with this result and these data bytes, the result byte is next on MSO, and the last-frame error
flag is cleared (R171, R173). -/
def State.withResult (s : State) (f : Frame) (r : Result) (data : List Byte) : State :=
  { s with mp := { s.mp with frame := some { f with phase := .result, result := some r, data }, errorFlag := false } }

/-- One move of a word whose ready mode is NONE: the end of a phase whose count has run out, in no time, or one CK period; counted
until every phase has run out, within `fuel` moves (R125). -/
def WordTxn.periodsToEnd (md : BusWord) : Nat → WordTxn → Option Nat
  | 0, _ => none
  | fuel + 1, w =>
    if w.phase = .ended then some 0
    else
      match w.phaseEnd md with
      | some w' => w'.periodsToEnd md fuel
      | none => (w.period.periodsToEnd md fuel).map (· + 1)

end Sys2Proof.Machine
end

