-- ==== Sys2Proof/Certificates/Slice0/Obligations.lean ====
section
/-! DEFINITION. The statements for the provers, in the order of OBLIGATIONS.json. -/

open Sys2Proof Sys2Proof.Machine

/-! ### The queue of commands and time -/

/-- A step with a command at the front of the queue is exec of it with the queue's rest (log 1). -/
def Obligations.StepRunsTheFrontCommand : Prop :=
  ∀ (c : Instr) (rest : List Instr) (s : State), step { s with pending := c :: rest } = exec c { s with pending := rest }

/-- Every command answers a next state, and none changes the queue of commands or the bytes on their way on MSI (logs 1, 14 and 24). -/
def Obligations.EveryCommandAnswersNextAndKeepsPending : Prop :=
  ∀ (c : Instr) (s : State), ∃ s', exec c s = .next s' ∧ s'.pending = s.pending ∧ s'.msi = s.msi

/-- On an empty queue a step is one CK period, unless an event is due (logs 1 and 2). Due are: the end of a phase, of a refresh or
self-refresh cycle, of a timer or of a CLOSING period whose count is 0; the report of a word that has ended; the low sample past the
ready limit; a frame's commit point. Otherwise each of those counts falls by one; a ready wait takes the sample of the period before as
low, its count rising by one, and has a sample due of this period (R126; the model's choice, log 4); a read beat is no longer driven
(the model's reading, log 28); and the bytes on MSI come nearer, one that arrives being shifted into the frame in progress (R171; the
model's choice, log 14). Nothing else changes. -/
def Obligations.EmptyQueuePassesOnePeriod : Prop :=
  ∀ s : State, s.pending = [] →
    let due : Prop :=
      (∃ w, s.channel.txn = some (.word w)
          ∧ (w.phase = .ended ∨ (w.phase ≠ .readyWait ∧ w.left = 0)
            ∨ (w.phase = .readyWait ∧ w.sampleDue = true ∧ w.timing.limit ≤ w.readyCount)))
        ∨ (∃ t, s.channel.txn = some (.slice t) ∧ t.left = 0)
        ∨ (∃ k : Cs, s.slices[k].interval = some 0 ∨ s.slices[k].exitTimer = some 0)
        ∨ s.ap.closeLeft = some 0
        ∨ ∃ f op rest, s.mp.frame = some f ∧ f.result = none ∧ f.received = op :: rest
            ∧ rest.length = 1 + if op = 0x21 then 8 else if op = 0x32 then 1 else 0
    (due → step s = .next s)
      ∧ (¬ due → step s = .next
          { s with
            channel := { s.channel with
              txn := match s.channel.txn with
                | some (.word w) =>
                  some (.word (if w.phase = .readyWait then
                      { w with readyCount := if w.sampleDue = true then w.readyCount + 1 else w.readyCount, sampleDue := true }
                    else { w with left := w.left - 1 }))
                | some (.slice t) => some (.slice { t with left := t.left - 1 })
                | none => none }
            slices := s.slices.map (fun sl =>
              { sl with interval := sl.interval.map (· - 1), exitTimer := sl.exitTimer.map (· - 1) })
            ap := { s.ap with beat := none, closeLeft := s.ap.closeLeft.map (· - 1) }
            mp := { s.mp with
              frame := match s.msi with
                | { wait := 0, byte := b } :: _ => s.mp.frame.map (·.shift b)
                | _ => s.mp.frame }
            msi := match s.msi with
              | [] => []
              | { wait := 0, byte := _ } :: rest => rest
              | { wait := n + 1, byte := b } :: rest => { wait := n, byte := b } :: rest })

/-! ### Reset -/

/-- What PIN_RESET leaves (R3, R23, R42, R49, R63, R84, R86, R101, R102, R116, R118, R124, R135, R136, R150, R160, R161, R178): the
whole state; the model's own queues and draw counter are kept. AX_REQ taken as released and an interval in force of 1560 are the model's
choices (logs 6 and 29); fields the spec shows as absent are none (log 23). -/
def Obligations.PinResetGivesThePinResetValues : Prop :=
  ∀ s : State, ∃ s', exec .pinReset s = .next s' ∧ s'.resetAsserted = true
    ∧ (∀ i : Fin 16, s'.tables.regions[i] =
        if i = 0 then
          { valid := true, base := 0, sizeCode := 12, cls := .read, aux := false, cs := 0, offset := 0, window := 0xFF, profile := 7 }
        else
          { valid := false, base := 0, sizeCode := 0, cls := .none, aux := false, cs := 0, offset := 0, window := 0, profile := 0 })
    ∧ (∀ k : Fin 4, s'.tables.windows[k] = { enable := false, addr := 0, bank := 0 })
    ∧ (∀ k : Cs, s'.tables.chipsels[k] =
        { cls := if k = 0 then .rom else .unused, interval := 1560, cycle := 12, threshold := 5, enable := false, exitTime := 400 })
    ∧ (∀ i : Fin 8, s'.tables.profiles[i] =
        { setup := 3, strobe := 31, hold := 3, recovery := 15, mode := .none, limit := 1023 })
    ∧ s'.tables.watermark = 12 ∧ s'.queue = []
    ∧ s'.sp = { access := .idle, lock := none, deferred := false, releaseSeen := false }
    ∧ s'.ap = { phase := .idle, desc := none, barrier := [], buffer := [], performed := 0, releaseSeen := false, axReq := false,
                closeLeft := none, beat := none }
    ∧ s'.channel.txn = none ∧ s'.channel.patience = 0 ∧ s'.channel.ma = 0 ∧ (∀ k : Cs, s'.channel.msr[k] = false)
    ∧ (∀ k : Cs, s'.slices[k] = { state := .off, debt := 0, interval := none, inForce := 1560, exitTimer := none })
    ∧ s'.retention.state = .running ∧ s'.retention.begun = false
    ∧ (∀ k : Cs, s'.retention.participants[k] = false ∧ s'.retention.issued[k] = none)
    ∧ s'.faults.log = [] ∧ s'.faults.serial = 0 ∧ s'.faults.dropped = 0
    ∧ s'.faults.causes = { drop := false, late := false, overrun := false, retain := false }
    ∧ s'.faults.enables = { log := false, drop := false, late := false, overrun := false, retain := false }
    ∧ s'.mp.frame = none ∧ s'.mp.errorFlag = false ∧ s'.mp.mselSeen = false
    ∧ s'.draws = s.draws ∧ s'.msi = s.msi ∧ s'.pending = s.pending

/-- RESET_RELEASE and SP_RELEASE_SEEN (R85, R101, R178): each input that is released at the release of RESET_N is seen so, and the
System Port's release may be seen later; nothing else changes. While RESET_N is asserted every other command but PIN_RESET changes
nothing (R84, R101, R135, R178). How the sightings are commanded is the model's choice (log 8). -/
def Obligations.ReleasesAreSeenAfterReset : Prop :=
  (∀ (l : ResetLevels) (s : State), s.resetAsserted = true →
      exec (.resetRelease l) s = .next
        { s with
          resetAsserted := false
          sp := { s.sp with releaseSeen := l.spReleased }
          ap := { s.ap with releaseSeen := l.axReleased, axReq := !l.axReleased }
          mp := { s.mp with mselSeen := l.mselReleased } })
    ∧ (∀ s : State, s.resetAsserted = false →
        exec .spReleaseSeen s = .next { s with sp := { s.sp with releaseSeen := true } })
    ∧ ∀ (c : Instr) (s : State), s.resetAsserted = true → c ≠ .pinReset → (∀ l, c ≠ .resetRelease l) → exec c s = .next s

/-! ### Region decode -/

/-- The selected entry is the lowest-indexed one that is valid and covers the word's even byte address; when none does, the access
has no region and faults DECODE_MISS (R2, R4). -/
def Obligations.LowestCoveringEntryIsSelected : Prop :=
  ∀ (t : Tables) (lock : Option Lock) (p : Presented),
    let covers (i : Fin 16) : Prop :=
      t.regions[i].valid = true ∧ t.regions[i].base.toNat * 4096 ≤ 2 * p.word.toNat
        ∧ 2 * p.word.toNat < (t.regions[i].base.toNat + 2 ^ t.regions[i].sizeCode.toNat) * 4096
    (∀ i : Fin 16, covers i → (∀ j : Fin 16, j < i → ¬ covers j) →
        (t.decode lock p).target.map (·.region) = some i)
      ∧ ((∀ i : Fin 16, ¬ covers i) →
        (t.decode lock p).target = none ∧ (t.decode lock p).disposition = .fault .decodeMiss)

/-- The physical word address is the sum of the offset, bank and displacement terms modulo 16 MiB, its lowest bit dropped; the chip
select and profile are the entry's (R5, R24). -/
def Obligations.PhysicalAddressIsTheSumModulo16MiB : Prop :=
  ∀ (t : Tables) (lock : Option Lock) (p : Presented) (i : Fin 16), t.select p.word = some i →
    ∃ tg, (t.decode lock p).target = some tg ∧ tg.region = i ∧ tg.cs = t.regions[i].cs
      ∧ (t.regions[i].profile.toNat ≤ 7 → tg.profile.val = t.regions[i].profile.toNat)
      ∧ (∀ k : Fin 4, t.regions[i].window.toNat = k.val →
          tg.phys.toNat =
            ((t.regions[i].offset.toNat * 4096 + t.windows[k].bank.toNat * (2 ^ t.regions[i].sizeCode.toNat * 4096)
              + (2 * p.word.toNat - t.regions[i].base.toNat * 4096)) % 2 ^ 24) / 2)
      ∧ (4 ≤ t.regions[i].window.toNat →
          tg.phys.toNat =
            ((t.regions[i].offset.toNat * 4096 + (2 * p.word.toNat - t.regions[i].base.toNat * 4096)) % 2 ^ 24) / 2)

/-- The words of a burst land where the same host words would if each were decoded alone with the same entry and bank number (R6). -/
def Obligations.BurstWordsLandAsDecodedAlone : Prop :=
  ∀ (r : Region) (bank k : Nat) (w : WordAddr), r.base.toNat * 4096 ≤ 2 * w.toNat →
    physWord r bank w + BitVec.ofNat 23 k = BitVec.ofNat 23 (physByte r bank (2 * (w.toNat + k)) / 2)

/-- The ordered checks of R10: the first that fails names the fault, DECODE_MISS when no entry is selected; an access that passes
all of them has none. A burst is split when its last word, formed without wrap, lies outside the selected entry's span (R11). -/
def Obligations.FirstFailedCheckNamesTheFault : Prop :=
  ∀ (t : Tables) (lock : Option Lock) (p : Presented),
    let d := t.decode lock p
    (t.select p.word = none → d.disposition = .fault .decodeMiss)
      ∧ ∀ i : Fin 16, t.select p.word = some i →
        let r := t.regions[i]
        let last := 2 * (p.word.toNat + p.words - 1)
        let inside : Prop := r.base.toNat * 4096 ≤ last ∧ last < (r.base.toNat + 2 ^ r.sizeCode.toNat) * 4096
        (r.cls = .none → d.disposition = .fault .noAccess)
          ∧ (r.cls ≠ .none → p.source = .ap → r.aux = false → d.disposition = .fault .auxDenied)
          ∧ (r.cls = .read → (p.source = .ap → r.aux = true) → p.dir = .write → d.disposition = .fault .readOnlyWrite)
          ∧ (r.cls ≠ .none → (p.source = .ap → r.aux = true) → (p.dir = .write → r.cls ≠ .read) →
              t.chipsels[r.cs].cls = .unused → d.disposition = .fault .targetAbsent)
          ∧ (r.cls ≠ .none → p.source = .ap → r.aux = true → (p.dir = .write → r.cls ≠ .read) →
              t.chipsels[r.cs].cls ≠ .unused → ¬ inside → d.disposition = .fault .burstSplit)
          ∧ (r.cls ≠ .none → (p.source = .ap → r.aux = true ∧ inside) → (p.dir = .write → r.cls ≠ .read) →
              t.chipsels[r.cs].cls ≠ .unused → d.faulted = false)

/-- The disposition of an access that passes every check (R8, R12, R13). -/
def Obligations.DispositionFollowsTheTable : Prop :=
  ∀ (t : Tables) (lock : Option Lock) (p : Presented) (i : Fin 16) (tg : Target), t.select p.word = some i →
    (t.decode lock p).target = some tg → (t.decode lock p).faulted = false →
    let r := t.regions[i]
    let c := t.chipsels[r.cs].cls
    let d := t.decode lock p
    let locked := lock = some { cs := tg.cs, phys := tg.phys }
    (p.source = .ap → d.disposition = .strict)
      ∧ (p.source = .sp → p.dir = .read →
          (p.lock = true → d.disposition = .lockedRead)
            ∧ (p.lock = false → r.cls = .strict → d.disposition = .strict)
            ∧ (p.lock = false → r.cls = .read ∨ r.cls = .posted → d.disposition = .forwardCheck))
      ∧ (p.source = .sp → p.dir = .write →
          (locked → d.disposition = .lockedWrite)
            ∧ (¬ locked → r.cls = .posted → c = .sram ∨ c = .dram → d.disposition = .posted)
            ∧ (¬ locked → r.cls = .strict ∨ (r.cls = .posted ∧ c = .rom) → d.disposition = .strict))

/-! ### System Port presentations -/

/-- A faulted System Port access is refused in its decode event: ABORT, FFFFh driven for a read, the occurrence of R16 taken, the
lock ended; nothing else changes (R15, R16, R72, R75, R80). At a FREE channel the Arbiter then decides (R111). -/
def Obligations.FaultedSystemAccessIsRefusedAtOnce : Prop :=
  ∀ (s : State) (t : SpTerminals) (k : FaultKind), s.Presented t → (s.spDecoded t).disposition = .fault k →
    exec (.spPresentation t) s = .next
      ({ s with
          sp := { s.sp with access := .answered .abort (if t.rd = true then some 0xFFFF else none) (s.spDecoded t), lock := none }
          faults := s.faults.take
            { kind := k, source := .sp, dir := if t.rd = true then .read else .write, word := some t.a, lanes := some (spLanes t)
              burst := none, data := if t.rd = true then none else some t.d
              region := (s.spDecoded t).target.map (·.region), cs := (s.spDecoded t).target.map (·.cs)
              phys := (s.spDecoded t).target.map (·.phys) } } : State).decide

/-- A forward hit is answered in its decode event with the forwarded word; the queue, the log and the Retention Controller are
unchanged (R51, R73, R80). -/
def Obligations.ForwardHitIsAnsweredFromTheQueue : Prop :=
  ∀ (s : State) (t : SpTerminals) (tg : Target) (w : BusWord), s.Presented t →
    (s.spDecoded t).disposition = .forwardCheck → (s.spDecoded t).target = some tg →
    forwardCheck s.queue tg (s.spDecoded t).lanes = .hit w →
    exec (.spPresentation t) s = .next
      ({ s with sp := { s.sp with access := .answered .data (some w) (s.spDecoded t), lock := none } } : State).decide

/-- A posted write is merged or appended and answered at once, or held in FULL; its capture is made, the lock ends, and in RETAINED
a write for a participant resumes the controller (R17, R36, R37, R38, R66, R74, R80, R157). -/
def Obligations.PostedWriteIsQueuedOrHeldInFull : Prop :=
  ∀ (s : State) (t : SpTerminals) (tg : Target), s.Presented t →
    (s.spDecoded t).disposition = .posted → (s.spDecoded t).target = some tg →
    let d := s.spDecoded t
    let n : Entry :=
      { cs := tg.cs, phys := tg.phys, lanes := d.lanes, data := d.lanes.keep 0 (d.data.getD 0), word := d.word, region := tg.region,
        profile := tg.profile, onChannel := false }
    (∀ q, offer s.queue n = some q →
        exec (.spPresentation t) s = .next
          ({ s with
              tables := s.tables.capture d
              queue := q
              sp := { s.sp with access := .answered .data none d, lock := none }
              retention := s.retention.afterAccess tg.cs } : State).decide)
      ∧ (offer s.queue n = none →
        exec (.spPresentation t) s = .next
          ({ s with
              tables := s.tables.capture d
              sp := { s.sp with access := .hold .full d, lock := none }
              retention := s.retention.afterAccess tg.cs } : State).decide)

/-- Any other access is held: in ORDER while the queue holds it back (a FORWARD-CHECK read that misses no entry of its word, any
other while the queue has an entry for its chip select), otherwise in WAKE or GRANT by the wake condition; only a LOCKED write keeps
the lock (R52, R55, R67, R68, R79, R80, R157). -/
def Obligations.OtherAccessHoldsInOrderWakeOrGrant : Prop :=
  ∀ (s : State) (t : SpTerminals) (tg : Target) (why : HoldReason), s.Presented t →
    (s.spDecoded t).target = some tg →
    let d := s.spDecoded t
    let waits : Prop :=
      if d.disposition = .forwardCheck then ∃ e ∈ s.queue, e.cs = tg.cs ∧ e.phys = tg.phys else ∃ e ∈ s.queue, e.cs = tg.cs
    (d.disposition = .forwardCheck ∧ (∀ w, forwardCheck s.queue tg d.lanes ≠ .hit w)
        ∨ d.disposition = .strict ∨ d.disposition = .lockedRead ∨ d.disposition = .lockedWrite) →
    ((waits ∧ why = .order) ∨ (¬ waits ∧ s.WakeCondition tg.cs ∧ why = .wake) ∨ (¬ waits ∧ ¬ s.WakeCondition tg.cs ∧ why = .grant)) →
    exec (.spPresentation t) s = .next
      ({ s with
          tables := s.tables.capture d
          sp := { s.sp with access := .hold why d, lock := if d.disposition = .lockedWrite then s.sp.lock else none }
          retention := s.retention.afterAccess tg.cs } : State).decide

/-- A write that does not fault captures into every window that is enabled for its word, when its lanes include L: the bank number
becomes the L data byte modulo 64, after the write's own decode. Nothing else of the tables changes, and no other access captures
(R25, R26, R27). -/
def Obligations.CaptureSetsTheBankNumber : Prop :=
  ∀ (s : State) (t : SpTerminals), s.Presented t → ∃ s', exec (.spPresentation t) s = .next s'
    ∧ s'.tables.regions = s.tables.regions ∧ s'.tables.chipsels = s.tables.chipsels ∧ s'.tables.profiles = s.tables.profiles
    ∧ s'.tables.watermark = s.tables.watermark
    ∧ ∀ k : Fin 4,
        s'.tables.windows[k].enable = s.tables.windows[k].enable ∧ s'.tables.windows[k].addr = s.tables.windows[k].addr
        ∧ ((s.spDecoded t).faulted = false ∧ t.rd = false ∧ (spLanes t).hasL = true ∧ s.tables.windows[k].enable = true
              ∧ s.tables.windows[k].addr = t.a →
            s'.tables.windows[k].bank.toNat = (lower t.d).toNat % 64)
        ∧ (¬ ((s.spDecoded t).faulted = false ∧ t.rd = false ∧ (spLanes t).hasL = true ∧ s.tables.windows[k].enable = true
              ∧ s.tables.windows[k].addr = t.a) →
            s'.tables.windows[k].bank = s.tables.windows[k].bank)

/-- CE_N with both strobes is no presentation, and none is taken while an access is held, on the channel or answered, before a release
has been seen, or while RESET_N is asserted (R9, R64, R84, R85). A presentation that meets a withdrawn access on the channel has a row
of its own, DEFERRED_PRESENTATION (R82). -/
def Obligations.NoPresentationWithoutOneStrobeOrRelease : Prop :=
  ∀ (s : State) (t : SpTerminals), t.rd = t.wr ∨ t.ce = false ∨ s.sp.access ≠ .idle ∨ s.sp.releaseSeen = false ∨ s.resetAsserted = true →
    exec (.spPresentation t) s = .next s

/-! ### The Posted Write Queue -/

/-- What the queue does with an offered write: it merges into a tail of the same chip select and word that is not on the channel,
whatever the occupancy; otherwise it is appended below 16; otherwise it is not taken (R36, R37, R38). -/
def Obligations.OfferMergesAppendsOrHolds : Prop :=
  (∀ (q : List Entry) (e n : Entry), e.cs = n.cs → e.phys = n.phys → e.onChannel = false →
      offer (q ++ [e]) n = some (q ++
        [{ e with lanes := e.lanes.union n.lanes
                  data := joinBytes (if n.lanes.hasU then upper n.data else upper e.data)
                    (if n.lanes.hasL then lower n.data else lower e.data) }]))
    ∧ (∀ (q : List Entry) (e n : Entry), ¬ (e.cs = n.cs ∧ e.phys = n.phys ∧ e.onChannel = false) →
        ((q ++ [e]).length < 16 → offer (q ++ [e]) n = some (q ++ [e, n]))
          ∧ (16 ≤ (q ++ [e]).length → offer (q ++ [e]) n = none))
    ∧ ∀ n : Entry, offer [] n = some [n]

/-- The forward check (R50): a miss when no entry names the read's chip select and word, a hit when some do and every requested lane is
held by one of them, a part otherwise. A forwarded read sees, in every requested lane, what the device word will hold once the queue
has drained; FFh in the others (R35, R51). -/
def Obligations.ForwardHitEqualsTheDrainedWord : Prop :=
  (∀ (q : List Entry) (t : Target) (m : Lanes),
      let named : Prop := ∃ e ∈ q, e.cs = t.cs ∧ e.phys = t.phys
      let held (lane : Lanes → Bool) : Prop := ∃ e ∈ q, e.cs = t.cs ∧ e.phys = t.phys ∧ lane e.lanes = true
      let covered : Prop := (m.hasU = true → held Lanes.hasU) ∧ (m.hasL = true → held Lanes.hasL)
      (¬ named → forwardCheck q t m = .miss)
        ∧ (named → covered → ∃ w, forwardCheck q t m = .hit w)
        ∧ (named → ¬ covered → forwardCheck q t m = .part))
    ∧ ∀ (q : List Entry) (t : Target) (m : Lanes) (w before : BusWord), forwardCheck q t m = .hit w →
        w = laneWord m (drainedWord q t before)

/-- The removal of the head by a drain completion, with its LATE_WRITE on a timeout, and the re-offer of a write held in FULL and
the release of the ORDER waiters that follow in the same event; a port that waits for no removal is left as it is (R38, R46, R47,
R52, R55, R57, R58, R90). That the Retention Controller's tests come before the decision (conclude) is the model's choice (log 9). -/
def Obligations.DrainCompletionRemovesTheHead : Prop :=
  (∀ (s : State) (w : WordTxn) (e : Entry) (rest : List Entry), s.WordEnded w .head → s.queue = e :: rest →
      exec .drainCompletion s = .next
        ({ s with
            channel := { s.channel with txn := none }
            queue := rest
            faults := if w.timedOut = true then
                s.faults.take
                  { kind := .lateWrite, source := .pwq, dir := .write, word := some e.word, lanes := some e.lanes, burst := none
                    data := some e.data, region := some e.region, cs := some e.cs, phys := some e.phys }
              else s.faults } : State).releaseSp.releaseAp.conclude)
    ∧ (∀ (s : State) (d : Descriptor) (tg : Target) (q : List Entry), s.sp.access = .hold .full d → d.target = some tg →
        offer s.queue (newEntry d tg) = some q →
        s.releaseSp = { s with queue := q, sp := { s.sp with access := .answered .data none d } })
    ∧ (∀ (s : State) (d : Descriptor) (tg : Target), s.sp.access = .hold .full d → d.target = some tg →
        offer s.queue (newEntry d tg) = none → s.releaseSp = s)
    ∧ (∀ s : State, (∀ d, s.sp.access ≠ .hold .full d ∧ s.sp.access ≠ .hold .order d) → s.releaseSp = s)
    ∧ (∀ s : State, s.ap.phase ≠ .order → s.releaseAp = s)
    ∧ (∀ (s : State) (d : Descriptor) (tg : Target) (why : HoldReason), s.sp.access = .hold .order d → d.target = some tg →
        (∀ e ∈ s.queue, ¬ (if d.disposition = .forwardCheck then e.cs = tg.cs ∧ e.phys = tg.phys else e.cs = tg.cs)) →
        (s.WakeCondition tg.cs ∧ why = .wake ∨ ¬ s.WakeCondition tg.cs ∧ why = .grant) →
        s.releaseSp =
          { s with sp := { s.sp with access := .hold why d }, retention := s.retention.afterAccess tg.cs })
    ∧ (∀ (s : State) (d : Descriptor) (tg : Target), s.sp.access = .hold .order d → d.target = some tg →
        (∃ e ∈ s.queue, if d.disposition = .forwardCheck then e.cs = tg.cs ∧ e.phys = tg.phys else e.cs = tg.cs) →
        s.releaseSp = s)
    ∧ (∀ (s : State) (d : Descriptor) (tg : Target) (p : ApPhase), s.ap.phase = .order → s.ap.desc = some d →
        d.target = some tg → (∀ x ∈ s.ap.barrier, x = 0) →
        (s.WakeCondition tg.cs ∧ p = .wake ∨ ¬ s.WakeCondition tg.cs ∧ p = .grant) →
        s.releaseAp = { s with ap := { s.ap with phase := p, barrier := [] }, retention := s.retention.afterAccess tg.cs })
    ∧ ∀ (s : State) (d : Descriptor), s.ap.phase = .order → s.ap.desc = some d → (∃ x ∈ s.ap.barrier, x ≠ 0) →
        s.releaseAp = { s with ap := { s.ap with barrier := (s.ap.barrier.filter (· ≠ 0)).map (· - 1) } }

/-! ### Ends and completions of System Port accesses -/

/-- The end of an access by its state: a normal end, a withdrawal from HOLD with HOST_WITHDRAWN, the withdrawn marker in CHANNEL;
and a presentation while the withdrawn access is still on the channel, which is deferred with WAIT_N asserted, with its own end
(R65, R71, R76, R79, R81, R82, R163). The decision after a withdrawal is the model's reading of R111 (log 10). -/
def Obligations.AccessEndFollowsTheAccessState : Prop :=
  ∀ s : State, s.resetAsserted = false →
    (∀ a w d, s.sp.access = .answered a w d → exec .spAccessEnd s = .next { s with sp := { s.sp with access := .idle } })
      ∧ (∀ r d, s.sp.access = .hold r d →
          exec .spAccessEnd s = .next
            ({ s with
                sp := { s.sp with access := .idle, lock := if d.disposition = .lockedWrite then none else s.sp.lock }
                faults := s.faults.take
                  { kind := .hostWithdrawn, source := .sp
                    dir := if d.dir = .read then .read else .write
                    word := some d.word, lanes := some d.lanes, burst := none, data := if d.dir = .read then none else d.data
                    region := d.target.map (·.region), cs := d.target.map (·.cs), phys := d.target.map (·.phys) } } : State).decide)
      ∧ (∀ d, s.sp.access = .channel false d →
          exec .spAccessEnd s = .next { s with sp := { s.sp with access := .channel true d } })
      ∧ ∀ d, s.sp.access = .channel true d →
          exec .deferredPresentation s = .next { s with sp := { s.sp with deferred := true } }
            ∧ ({ s.sp with deferred := true } : SysPort).waitN = true
            ∧ exec .spAccessEnd s = .next { s with sp := { s.sp with deferred := false } }

/-- The release of LOCK_N ends a held lock, and the Arbiter decides at a FREE channel (R80, R109, R111). LOCK_N's release as the
only event of a held lock's level is the model's reading (log 20). -/
def Obligations.LockReleaseEndsTheLock : Prop :=
  ∀ (s : State) (l : Lock), s.resetAsserted = false → s.sp.lock = some l →
    exec .lockNRelease s = .next ({ s with sp := { s.sp with lock := none } } : State).decide

/-- The completion of a System Port transaction that was not withdrawn: DATA with the device's lanes, or ABORT with DEVICE_TIMEOUT;
the lock as R77 and R79 give (R70, R73, R74, R75, R77, R79, R163). The order of the completion event's tests and decision is the model's
choice (log 9). -/
def Obligations.SystemCompletionAnswersTheAccess : Prop :=
  ∀ (s : State) (w : WordTxn) (d : Descriptor) (t : SpTerminals), s.WordEnded w .sp → s.sp.access = .channel false d →
    exec (.spTransactionCompletion t) s = .next
      ({ s with
          channel := { s.channel with txn := none }
          sp := { s.sp with
            access :=
              if w.timedOut = true then .answered .abort (abortDriven d.dir) d
              else
                .answered .data
                  (match d.dir with
                    | .read => some (laneWord d.lanes w.taken)
                    | .write => none) d
            lock := lockAfterAnswer s.sp.lock d w.timedOut t.lock }
          faults := if w.timedOut = true then
              s.faults.take
                { kind := .deviceTimeout, source := .sp
                  dir := if d.dir = .read then .read else .write
                  word := some d.word, lanes := some d.lanes, burst := none, data := if d.dir = .read then none else d.data
                  region := d.target.map (·.region), cs := d.target.map (·.cs), phys := d.target.map (·.phys) }
            else s.faults } : State).conclude

/-- The completion of a withdrawn System Port transaction: no answer; a timeout is still recorded; a LOCKED write's lock ends and a
LOCKED read takes none; a deferred presentation that still stands is taken then (R77, R79, R82). The order of the event's tests and
decision is the model's choice (log 9), and so are the two occurrences of one event when the access times out and the deferred one
faults (log 33). -/
def Obligations.WithdrawnCompletionAnswersNothing : Prop :=
  ∀ (s : State) (w : WordTxn) (d : Descriptor) (t : SpTerminals), s.WordEnded w .sp → s.sp.access = .channel true d →
    let x : State :=
      { s with
        channel := { s.channel with txn := none }
        sp := { s.sp with
          access := .idle
          lock := if d.disposition = .lockedWrite then none else s.sp.lock
          deferred := false }
        faults := if w.timedOut = true then
            s.faults.take
              { kind := .deviceTimeout, source := .sp
                dir := if d.dir = .read then .read else .write
                word := some d.word, lanes := some d.lanes, burst := none, data := if d.dir = .read then none else d.data
                region := d.target.map (·.region), cs := d.target.map (·.cs), phys := d.target.map (·.phys) }
          else s.faults }
    (s.sp.deferred = true → t.presents = true → exec (.spTransactionCompletion t) s = .next (x.presentSp t).conclude)
      ∧ (s.sp.deferred = false ∨ t.presents = false → exec (.spTransactionCompletion t) s = .next x.conclude)

/-! ### The Auxiliary Port -/

/-- A faulted burst request closes with ERR in its decode event and is recorded; no barrier, no beat (R15, R16, R87, R88). -/
def Obligations.FaultedBurstClosesWithError : Prop :=
  ∀ (s : State) (t : ApTerminals) (k : FaultKind), s.ApPresented → (s.apDecoded t).disposition = .fault k →
    exec (.apPresentation t) s = .next
      ({ s with
          ap := { phase := .closing .err, desc := some (s.apDecoded t), barrier := [], buffer := [], performed := 0
                  releaseSeen := false, axReq := true, closeLeft := none, beat := none }
          faults := s.faults.take
            { kind := k, source := .ap, dir := if t.wr = true then .write else .read, word := some t.a, lanes := none
              burst := some (t.len.toNat + 1), data := none
              region := (s.apDecoded t).target.map (·.region), cs := (s.apDecoded t).target.map (·.cs)
              phys := (s.apDecoded t).target.map (·.phys) } } : State).decide

/-- A burst request that does not fault takes its barrier set, the places of the entries for its words, and goes to ORDER, WAKE or
GRANT; a write's beat of the same period is taken, and in RETAINED a participant's request resumes the controller (R56, R87, R88,
R89, R91, R157). -/
def Obligations.BurstRequestTakesItsBarrierSet : Prop :=
  ∀ (s : State) (t : ApTerminals) (tg : Target) (p : ApPhase), s.ApPresented → (s.apDecoded t).faulted = false →
    (s.apDecoded t).target = some tg →
    let n := t.len.toNat + 1
    let b := barrierOf s.queue tg n
    (b ≠ [] ∧ p = .order ∨ b = [] ∧ s.WakeCondition tg.cs ∧ p = .wake ∨ b = [] ∧ ¬ s.WakeCondition tg.cs ∧ p = .grant) →
    exec (.apPresentation t) s = .next
        ({ s with
            ap := { phase := p, desc := some (s.apDecoded t), barrier := b
                    buffer := if t.wr = true then t.beat.toList else []
                    performed := 0, releaseSeen := false, axReq := true, closeLeft := none, beat := none }
            retention := s.retention.afterAccess tg.cs } : State).decide
      ∧ ∀ x : Nat, x ∈ b ↔ ∃ e, s.queue[x]? = some e ∧ e.cs = tg.cs ∧ ∃ i < n, e.phys = tg.phys + BitVec.ofNat 23 i

/-- A beat of a write burst in ORDER, WAKE or GRANT is appended while beats are outstanding; the last one may start the request to
the Arbiter (R89, R92, R111). A beat beyond n, of a read burst, or in IDLE, BURST or CLOSING is ignored (R89). -/
def Obligations.WriteBeatIsTakenOrIgnored : Prop :=
  (∀ (s : State) (d : Descriptor) (n : Nat) (x : BusWord), s.resetAsserted = false → s.ap.desc = some d → d.burst = some n →
    let taken := (s.ap.phase = .order ∨ s.ap.phase = .wake ∨ s.ap.phase = .grant) ∧ d.dir = .write ∧ s.ap.buffer.length < n
    (taken → exec (.writeBeat x) s = .next ({ s with ap := { s.ap with buffer := s.ap.buffer ++ [x] } } : State).decide)
      ∧ (¬ taken → exec (.writeBeat x) s = .next s))
    ∧ ∀ (s : State) (x : BusWord), s.resetAsserted = false →
        s.ap.phase = .idle ∨ s.ap.phase = .burst ∨ (∃ c, s.ap.phase = .closing c) → exec (.writeBeat x) s = .next s

/-- The release of AX_REQ, by the port's state: a request not granted is withdrawn with HOST_WITHDRAWN and the patience cleared; in
BURST only the level is noted; CLOSING ends, unless its one CK period already runs, which CLOSING_PERIOD_END ends; and AX_REQ asserted
again where no presentation is taken is noted only (R87, R98, R99, R100, R101, R163). The sighting in IDLE, the level that is kept and
the running period of CLOSING are the model's readings (logs 6, 8 and 26). -/
def Obligations.RequestReleaseFollowsThePortState : Prop :=
  ∀ s : State, s.resetAsserted = false →
    let idle : AuxPort :=
      { s.ap with phase := .idle, desc := none, barrier := [], buffer := [], releaseSeen := true, closeLeft := none, beat := none }
    (∀ d, s.ap.phase = .order ∨ s.ap.phase = .wake ∨ s.ap.phase = .grant → s.ap.desc = some d →
        exec .axReqRelease s = .next
          { s with
            ap := { idle with axReq := false }
            channel := { s.channel with patience := 0 }
            faults := s.faults.take
              { kind := .hostWithdrawn, source := .ap
                dir := if d.dir = .read then .read else .write
                word := some d.word, lanes := none, burst := d.burst, data := none
                region := d.target.map (·.region), cs := d.target.map (·.cs), phys := d.target.map (·.phys) } })
      ∧ (s.ap.phase = .burst → exec .axReqRelease s = .next { s with ap := { s.ap with axReq := false } })
      ∧ (∀ c, s.ap.phase = .closing c → s.ap.closeLeft = none →
          exec .axReqRelease s = .next { s with ap := { idle with axReq := false } })
      ∧ (∀ c n, s.ap.phase = .closing c → s.ap.closeLeft = some n →
          exec .axReqRelease s = .next { s with ap := { s.ap with axReq := false } })
      ∧ (s.ap.phase = .idle → exec .axReqRelease s = .next { s with ap := { s.ap with releaseSeen := true, axReq := false } })
      ∧ (∀ c, s.ap.phase = .closing c → s.ap.closeLeft = some 0 → exec .closingPeriodEnd s = .next { s with ap := idle })
      ∧ ∀ t, s.ap.phase ≠ .idle ∨ s.ap.releaseSeen = false →
          exec (.apPresentation t) s = .next { s with ap := { s.ap with axReq := true } }

/-- A burst word other than the last ends OK: it is counted, a read's beat is delivered, and the next word begins at the next
physical word, wrapping, with its own ready wait (R94, R126, R128). How long a beat is driven is the model's reading (log 28). -/
def Obligations.BurstWordEndBeginsTheNextWord : Prop :=
  ∀ (s : State) (w : WordTxn), s.WordEnded w .ap → w.timedOut = false → w.current + 1 < w.count →
    ∃ w' : WordTxn,
      exec .burstWordEnd s = .next
        { s with
          ap := { s.ap with
            performed := s.ap.performed + 1
            beat := match w.dir with
              | .read => some w.taken
              | .write => none }
          channel := { s.channel with txn := some (.word w'), ma := w.start + BitVec.ofNat 23 (w.current + 1) } }
        ∧ w'.holder = w.holder ∧ w'.dir = w.dir ∧ w'.cs = w.cs ∧ w'.start = w.start ∧ w'.count = w.count
        ∧ w'.current = w.current + 1 ∧ w'.lanes = w.lanes ∧ w'.data = w.data ∧ w'.timing = w.timing ∧ w'.readyCount = 0
        ∧ w'.sampleDue = false ∧ w'.timedOut = false
        ∧ (w.timing.setup ≠ 0 → w'.phase = .setup ∧ w'.left = w.timing.setup)
        ∧ (w.timing.setup = 0 → w.timing.mode = .ready → w'.phase = .readyWait)
        ∧ (w.timing.setup = 0 → w.timing.mode ≠ .ready → w'.phase = .strobe ∧ w'.left = w.timing.strobe)

/-- The completion of a burst: END with the last word counted and a read's last beat delivered, or ERR with a DEVICE_TIMEOUT of the
failed word; with AX_REQ already released the answer is held for one period (R96, R97, R98, R100, R129). The order of the event's
tests and decision is the model's choice (log 9). -/
def Obligations.BurstCompletionClosesTheBurst : Prop :=
  ∀ (s : State) (w : WordTxn) (d : Descriptor), s.WordEnded w .ap → s.ap.desc = some d →
    (w.timedOut = false → w.count ≤ w.current + 1 →
        exec .burstCompletion s = .next
          ({ s with
              channel := { s.channel with txn := none }
              ap := { s.ap with
                phase := .closing .done
                performed := s.ap.performed + 1
                beat := match w.dir with
                  | .read => some w.taken
                  | .write => none
                closeLeft := if s.ap.axReq = true then none else some 1 } } : State).conclude)
      ∧ (w.timedOut = true →
        exec .burstCompletion s = .next
          ({ s with
              channel := { s.channel with txn := none }
              ap := { s.ap with
                phase := .closing .err
                beat := none
                closeLeft := if s.ap.axReq = true then none else some 1 }
              faults := s.faults.take
                { kind := .deviceTimeout, source := .ap
                  dir := if d.dir = .read then .read else .write
                  word := some (d.word + BitVec.ofNat 23 s.ap.performed), lanes := none, burst := d.burst, data := none
                  region := d.target.map (·.region), cs := d.target.map (·.cs)
                  phys := d.target.map (fun tg => tg.phys + BitVec.ofNat 23 s.ap.performed) } } : State).conclude)

/-! ### The Channel Sequencer -/

/-- The end of a phase whose count has run out (R125, R126, R128): setup to strobe, or to the ready wait under READY; strobe to hold
with a read's data taken, or to the ready wait under READY_AFTER_STROBE; hold to recovery after the last word; phases of 0 periods
passed over; recovery to the report. Nothing else of the part changes. The state between the last phase and its report is the
model's choice (log 19). -/
def Obligations.PhaseEndMovesTheWordOn : Prop :=
  ∀ (s : State) (w : WordTxn) (md : BusWord), s.resetAsserted = false → s.channel.txn = some (.word w) → w.left = 0 →
    let gives (x : WordTxn) : Prop :=
      exec (.phaseEnd md) s = .next { s with channel := { s.channel with txn := some (.word x) } }
    let last : Prop := w.timedOut = true ∨ w.count ≤ w.current + 1
    let data : BusWord := match w.dir with
      | .read => md
      | .write => w.taken
    (w.phase = .setup → w.timing.mode = .ready → gives { w with phase := .readyWait, sampleDue := false })
      ∧ (w.phase = .setup → w.timing.mode ≠ .ready → gives { w with phase := .strobe, left := w.timing.strobe, sampleDue := false })
      ∧ (w.phase = .strobe → w.timing.mode = .readyAfterStrobe → gives { w with phase := .readyWait, sampleDue := false })
      ∧ (w.phase = .strobe → w.timing.mode ≠ .readyAfterStrobe → w.timing.hold ≠ 0 →
          gives { w with phase := .hold, left := w.timing.hold, sampleDue := false, taken := data })
      ∧ (w.phase = .strobe → w.timing.mode ≠ .readyAfterStrobe → w.timing.hold = 0 → last → w.timing.recovery ≠ 0 →
          gives { w with phase := .recovery, left := w.timing.recovery, sampleDue := false, taken := data })
      ∧ (w.phase = .strobe → w.timing.mode ≠ .readyAfterStrobe → w.timing.hold = 0 → ¬ (last ∧ w.timing.recovery ≠ 0) →
          gives { w with phase := .ended, sampleDue := false, taken := data })
      ∧ (w.phase = .hold → last → w.timing.recovery ≠ 0 → gives { w with phase := .recovery, left := w.timing.recovery })
      ∧ (w.phase = .hold → ¬ (last ∧ w.timing.recovery ≠ 0) → gives { w with phase := .ended })
      ∧ (w.phase = .recovery → gives { w with phase := .ended })

/-- The two ends of a ready wait: MRDY sampled high ends the strobe; the low sample that takes the count to limit + 1 ends it with a
timeout; the hold, or what follows a hold of 0 periods, comes next (R126, R127, R129). How samples are commanded is the model's
choice (log 4). -/
def Obligations.ReadyWaitEndsHighOrAtTheLimit : Prop :=
  ∀ (s : State) (w : WordTxn) (md : BusWord), s.resetAsserted = false → s.channel.txn = some (.word w) → w.phase = .readyWait →
    w.sampleDue = true →
    let gives (c : Instr) (x : WordTxn) : Prop := exec c s = .next { s with channel := { s.channel with txn := some (.word x) } }
    let data : BusWord := match w.dir with
      | .read => md
      | .write => w.taken
    (w.timing.hold ≠ 0 →
        gives (.mrdyReady md) { w with phase := .hold, left := w.timing.hold, sampleDue := false, taken := data }
          ∧ (w.timing.limit ≤ w.readyCount →
            gives .readyLimitExceeded
              { w with phase := .hold, left := w.timing.hold, sampleDue := false, timedOut := true, readyCount := w.readyCount + 1 }))
      ∧ (w.timing.hold = 0 → w.timing.recovery ≠ 0 → w.timedOut = true ∨ w.count ≤ w.current + 1 →
        gives (.mrdyReady md) { w with phase := .recovery, left := w.timing.recovery, sampleDue := false, taken := data })
      ∧ (w.timing.hold = 0 → w.timing.recovery = 0 ∨ (w.timedOut = false ∧ w.current + 1 < w.count) →
        gives (.mrdyReady md) { w with phase := .ended, left := 0, sampleDue := false, taken := data })
      ∧ (w.timing.hold = 0 → w.timing.recovery ≠ 0 → w.timing.limit ≤ w.readyCount →
        gives .readyLimitExceeded
          { w with phase := .recovery, left := w.timing.recovery, sampleDue := false, timedOut := true
                   readyCount := w.readyCount + 1 })
      ∧ (w.timing.hold = 0 → w.timing.recovery = 0 → w.timing.limit ≤ w.readyCount →
        gives .readyLimitExceeded
          { w with phase := .ended, left := 0, sampleDue := false, timedOut := true, readyCount := w.readyCount + 1 })

/-- A word with ready mode NONE lasts setup + strobe + hold + recovery periods (R124, R125). -/
def Obligations.WordLengthIsTheSumOfItsPhases : Prop :=
  ∀ (w : WordTxn) (md : BusWord) (fuel : Nat), w.timing.mode = .none → w.count ≤ w.current + 1 →
    w.timing.setup + w.timing.strobe + w.timing.hold + w.timing.recovery + 5 ≤ fuel →
    w.beginWord.periodsToEnd md fuel = some (w.timing.setup + w.timing.strobe + w.timing.hold + w.timing.recovery)

/-! ### The Channel Arbiter -/

/-- Which requests stand and at which level, by the ladder of R104. At a FREE channel: a slice's refresh while it has debt, urgent in
WARMUP, at the threshold, or for a participant while DRAINING, idle otherwise (R106, R139), and a command issued, urgent (R103); one
that waits behind its slice's refresh is left out of the list (R105). In every state: the burst in GRANT with its data complete and no lock held, at AP or, its patience spent, at SP (R92, R108, R109);
the access in GRANT, at SP (R103); and the head that may drain, pressed at the watermark, or at the level of the port it holds up in
ORDER, or normal (R43, R44, R59). A decision at a FREE channel grants a standing request that no other outranks, and grants one
whenever one stands; a BUSY channel is left as it is, whatever the requests (R104, R110, R112). -/
def Obligations.DecisionGrantsTheHighestRank : Prop :=
  (Level.sliceUrgent.rank = 1 ∧ Level.drainPressed.rank = 2 ∧ Level.sp.rank = 3 ∧ Level.ap.rank = 4 ∧ Level.drainNormal.rank = 5
      ∧ Level.sliceIdle.rank = 6)
    ∧ ∀ s : State,
      (s.channel.txn ≠ none → s.decide = s)
      ∧ (s.channel.txn = none →
        (s.requests = [] → s.decide = s)
          ∧ (s.requests ≠ [] → ∃ l r, (l, r) ∈ s.requests ∧ (∀ x ∈ s.requests, l.rank ≤ x.1.rank) ∧ s.decide = s.grant r))
      ∧ (s.channel.txn = none → ∀ (l : Level) (k : Cs),
          let sl := s.slices[k]
          let urgent : Prop :=
            sl.state = .warmup
              ∨ (sl.state = .active
                ∧ (s.tables.chipsels[k].threshold ≤ sl.debt ∨ (s.retention.state = .draining ∧ s.retention.participants[k] = true)))
          let standing : Prop := sl.debt ≠ 0 ∧ (sl.state = .warmup ∨ sl.state = .active)
          ((l, Request.refresh k) ∈ s.requests ↔ standing ∧ ((urgent ∧ l = .sliceUrgent) ∨ (¬ urgent ∧ l = .sliceIdle)))
            ∧ ∀ c : SelfCmd, (l, Request.command k c) ∈ s.requests ↔ ¬ standing ∧ s.retention.issued[k] = some c ∧ l = .sliceUrgent)
      ∧ (∀ (l : Level) (d : Descriptor) (t : Target), (l, Request.ap d t) ∈ s.requests ↔
          s.ap.phase = .grant ∧ s.ap.desc = some d ∧ d.target = some t ∧ s.sp.lock = none
            ∧ (d.dir = .read ∨ s.ap.buffer.length = d.burst.getD 0)
            ∧ ((4 ≤ s.channel.patience ∧ l = .sp) ∨ (s.channel.patience < 4 ∧ l = .ap)))
      ∧ (∀ (l : Level) (d : Descriptor) (t : Target), (l, Request.sp d t) ∈ s.requests ↔
          s.sp.access = .hold .grant d ∧ d.target = some t ∧ l = .sp)
      ∧ ∀ (l : Level) (e : Entry), (l, Request.head e) ∈ s.requests ↔
          let c := s.tables.chipsels[e.cs].cls
          let st := s.slices[e.cs].state
          let pressed : Prop := s.tables.watermark ≤ s.queue.length
          let spOrder : Prop := ∃ d, s.sp.access = .hold .order d
          s.queue.head? = some e ∧ e.onChannel = false ∧ (c = .sram ∨ (c = .dram ∧ (st = .off ∨ st = .active)))
            ∧ ¬ (s.retention.state = .draining ∧ s.retention.begun = true ∧ s.retention.participants[e.cs] = true)
            ∧ ((pressed ∧ l = .drainPressed) ∨ (¬ pressed ∧ spOrder ∧ l = .sp)
              ∨ (¬ pressed ∧ ¬ spOrder ∧ s.ap.phase = .order ∧ l = .ap)
              ∨ (¬ pressed ∧ ¬ spOrder ∧ s.ap.phase ≠ .order ∧ l = .drainNormal))

/-- The request that a decision chooses among those of the highest standing rank (R104 to R107): at SLICE-URGENT and at SLICE-IDLE that of
the lowest chip select, a slice's refresh before its command; at SP an Auxiliary Port request with spent patience before the System Port
access, and that before an inheriting head; anywhere else the one that stands there. -/
def Obligations.TiesGoToTheLowestSliceAndSpentPatience : Prop :=
  ∀ s : State,
    let ofSlice (k : Cs) (x : Request) : Prop := x = .refresh k ∨ ∃ c, x = .command k c
    (∀ (k : Cs) (l l' : Level) (c : SelfCmd), (l, Request.refresh k) ∈ s.requests → (l', Request.command k c) ∉ s.requests)
      ∧ ∀ (l : Level) (r : Request), (l, r) ∈ s.requests → (∀ x ∈ s.requests, l.rank ≤ x.1.rank) →
        (∀ k : Cs, ofSlice k r → (∀ (j : Cs) (x : Request), j < k → ofSlice j x → (l, x) ∉ s.requests) → s.choose = some r)
          ∧ (∀ d t, r = .ap d t → s.choose = some r)
          ∧ (∀ d t, r = .sp d t → (∀ d' t', (l, Request.ap d' t') ∉ s.requests) → s.choose = some r)
          ∧ ((∀ x ∈ s.requests, x.1 = l → x.2 = r) → s.choose = some r)

/-- What a grant does (R45, R70, R93, R108, R112, R117, R130, R131, R133, R137, R145): the holder sees it, the patience count is
updated, and the transaction begins with the parameters of the holder; nothing else changes. -/
def Obligations.GrantBeginsTheHoldersTransaction : Prop :=
  ∀ s : State,
    let word (h : WordHolder) (dir : Direction) (t : Target) (n : Nat) (m : Lanes) (x : List BusWord) : WordTxn :=
      ({ holder := h, dir, cs := t.cs, start := t.phys, count := n, current := 0, lanes := m, data := x
         timing := s.tables.profiles[t.profile], phase := .setup, left := 0, readyCount := 0, sampleDue := false, timedOut := false
         taken := 0 } : WordTxn).beginWord
    let sliceTxn (k : Cs) (op : SliceOp) : Txn :=
      .slice { cs := k, op, cycle := s.tables.chipsels[k].cycle, left := s.tables.chipsels[k].cycle }
    (∀ d t, s.grant (.sp d t) =
        { s with
          sp := { s.sp with access := .channel false d }
          channel := { s.channel with
            txn := some (.word (word .sp d.dir t 1 d.lanes d.data.toList))
            ma := t.phys
            patience := if s.apRequest.isSome = true then min 4 (s.channel.patience + 1) else s.channel.patience } })
      ∧ (∀ d t, s.grant (.ap d t) =
        { s with
          ap := { s.ap with phase := .burst }
          channel := { s.channel with
            txn := some (.word (word .ap d.dir t (d.burst.getD 1) .ul s.ap.buffer)), ma := t.phys, patience := 0 } })
      ∧ (∀ e rest, s.queue = e :: rest → s.grant (.head e) =
        { s with
          queue := { e with onChannel := true } :: rest
          channel := { s.channel with
            txn := some (.word (word .head .write { region := e.region, cs := e.cs, phys := e.phys, profile := e.profile } 1 e.lanes
              [e.data]))
            ma := e.phys } })
      ∧ (∀ k, s.grant (.refresh k) = { s with channel := { s.channel with txn := some (sliceTxn k .refresh) } })
      ∧ (∀ k, s.grant (.command k .enter) =
        { s with
          slices := s.slices.set k { s.slices[k] with interval := none }
          channel := { s.channel with txn := some (sliceTxn k .selfEnter), msr := s.channel.msr.set k true } })
      ∧ ∀ k, s.grant (.command k .exit) =
        { s with channel := { s.channel with txn := some (sliceTxn k .selfExit), msr := s.channel.msr.set k false } }

/-! ### The Refresh Slices -/

/-- A REFRESH completion, by the slice's state: ACTIVE and WARMUP lower the debt, the last warm-up refresh enters ACTIVE and starts
the interval timer, an OFF slice is left (R137, R140). The order of the event's tests and decision is the model's choice (log 9). -/
def Obligations.RefreshCompletionPaysTheDebt : Prop :=
  ∀ (s : State) (k : Cs), s.SliceEnded k .refresh →
    let gives (x : Slice) : Prop :=
      exec .refreshCompletion s = .next
        ({ s with channel := { s.channel with txn := none }, slices := s.slices.set k x } : State).conclude
    (s.slices[k].state = .active → gives { s.slices[k] with debt := s.slices[k].debt - 1 })
      ∧ (s.slices[k].state = .warmup → 2 ≤ s.slices[k].debt → gives { s.slices[k] with debt := s.slices[k].debt - 1 })
      ∧ (s.slices[k].state = .warmup → s.slices[k].debt = 1 →
          gives
            { state := .active, debt := 0, interval := some s.tables.chipsels[k].interval
              inForce := s.tables.chipsels[k].interval, exitTimer := none })
      ∧ (s.slices[k].state = .off → gives s.slices[k])

/-- The timers' expiries. An interval expiry of an ACTIVE slice restarts the timer with the refresh interval copied afresh; below 8
the debt rises by one, at 8 it stays and REFRESH_OVERRUN is recorded (R137, R138). The exit timer's expiry enters ACTIVE with debt 0
and starts the interval timer (R137, R147). The order of the event's tests and decision is the model's choice (log 9). -/
def Obligations.TimerExpiriesRaiseDebtOrEnterActive : Prop :=
  ∀ (s : State) (k : Cs), s.resetAsserted = false →
    let i := s.tables.chipsels[k].interval
    (s.slices[k].state = .active → s.slices[k].interval = some 0 → s.slices[k].debt < 8 →
        exec (.intervalExpiry k) s = .next
          ({ s with
              slices := s.slices.set k
                { s.slices[k] with debt := s.slices[k].debt + 1, interval := some i, inForce := i } } : State).decide)
      ∧ (s.slices[k].state = .active → s.slices[k].interval = some 0 → s.slices[k].debt = 8 →
        exec (.intervalExpiry k) s = .next
          ({ s with
              slices := s.slices.set k { s.slices[k] with interval := some i, inForce := i }
              faults := s.faults.take
                { kind := .refreshOverrun, source := .slice, dir := .none, word := none, lanes := none, burst := none, data := none
                  region := none, cs := some k, phys := none } } : State).decide)
      ∧ (s.slices[k].state = .waking → s.slices[k].exitTimer = some 0 →
        exec (.exitTimerExpiry k) s = .next
          ({ s with
              slices := s.slices.set k
                { state := .active, debt := 0, interval := some i, inForce := i, exitTimer := none } } : State).conclude)

/-- The completions of SELF_ENTER and SELF_EXIT, by the slice's state, and the command issued after them: ACTIVE enters SELF, SELF
enters WAKING with its exit timer started, OFF stays OFF and a SELF_ENTER is followed by a SELF_EXIT (R145, R146, R151, R155, R159).
The order of the event's tests and decision is the model's choice (log 9). -/
def Obligations.SelfRefreshCompletionsMoveTheSlice : Prop :=
  ∀ (s : State) (k : Cs),
    let gives (c : Instr) (x : Slice) (cmd : Option SelfCmd) : Prop :=
      exec c s = .next
        ({ s with
            channel := { s.channel with txn := none }
            slices := s.slices.set k x
            retention := { s.retention with issued := s.retention.issued.set k cmd } } : State).conclude
    (s.SliceEnded k .selfEnter → s.slices[k].state = .active →
        gives .selfEnterCompletion { s.slices[k] with state := .self, debt := 0, interval := none, exitTimer := none } none)
      ∧ (s.SliceEnded k .selfEnter → s.slices[k].state = .off → gives .selfEnterCompletion s.slices[k] (some .exit))
      ∧ (s.SliceEnded k .selfExit → s.slices[k].state = .self →
          gives .selfExitCompletion
            { s.slices[k] with state := .waking, debt := 0, interval := none, exitTimer := some s.tables.chipsels[k].exitTime } none)
      ∧ (s.SliceEnded k .selfExit → s.slices[k].state = .off → gives .selfExitCompletion s.slices[k] none)

/-! ### Retention -/

/-- A port's access in WAKE enters GRANT when the wake condition has ceased, and one in GRANT returns to WAKE when it has come to hold,
the Auxiliary Port's return clearing the patience count; any other hold stays (R68, R69, R91, R92, R108). The end of an event that can
move the Retention Controller is its tests with both ports following, then the decision: that order is the model's choice (log 9). -/
def Obligations.PortsFollowTheWakeCondition : Prop :=
  ∀ (s : State) (d : Descriptor) (tg : Target), d.target = some tg →
    let sp (r : HoldReason) : State := { s with sp := { s.sp with access := .hold r d } }
    (s.sp.access = .hold .wake d →
        (s.WakeCondition tg.cs → s.rewakeSp = s) ∧ (¬ s.WakeCondition tg.cs → s.rewakeSp = sp .grant))
      ∧ (s.sp.access = .hold .grant d →
        (s.WakeCondition tg.cs → s.rewakeSp = sp .wake) ∧ (¬ s.WakeCondition tg.cs → s.rewakeSp = s))
      ∧ ((∀ x, s.sp.access ≠ .hold .wake x ∧ s.sp.access ≠ .hold .grant x) → s.rewakeSp = s)
      ∧ (s.ap.phase = .wake → s.ap.desc = some d →
        (s.WakeCondition tg.cs → s.rewakeAp = s)
          ∧ (¬ s.WakeCondition tg.cs → s.rewakeAp = { s with ap := { s.ap with phase := .grant } }))
      ∧ (s.ap.phase = .grant → s.ap.desc = some d →
        (s.WakeCondition tg.cs →
            s.rewakeAp = { s with ap := { s.ap with phase := .wake }, channel := { s.channel with patience := 0 } })
          ∧ (¬ s.WakeCondition tg.cs → s.rewakeAp = s))
      ∧ (s.ap.phase ≠ .wake → s.ap.phase ≠ .grant → s.rewakeAp = s)
      ∧ s.rewake = s.rewakeSp.rewakeAp
      ∧ s.conclude = s.rewake.sequenceBegin.rewake.sequenceEnd.resumeEnd.rewake.decide

/-- ENTER_RETENTION and EXIT_RETENTION by the retention state (R151, R152, R158, R159). The order of the event's tests and decision
is the model's choice (log 9). -/
def Obligations.RetentionCommandsFollowTheState : Prop :=
  ∀ (s : State) (f : Frame) (arg : Byte),
    let enters (x : State) (r : Result) : Prop :=
      s.AtCommit f [0x40, arg] → exec (.enterRetention arg) s = .next (x.withResult f r [])
    let exits (x : State) (r : Result) : Prop :=
      s.AtCommit f [0x41, arg] → exec (.exitRetention arg) s = .next (x.withResult f r [])
    (s.retention.state = .running →
        (∃ part : Vector Bool 4,
          (∀ k : Cs, part[k] = true ↔
              s.tables.chipsels[k].cls = .dram ∧ (s.slices[k].state = .active ∨ s.slices[k].state = .warmup))
            ∧ enters
                ({ s with retention := { s.retention with state := .draining, begun := false, participants := part } } : State).conclude
                .done)
          ∧ exits s .done)
      ∧ (s.retention.state = .draining →
          enters s .done
            ∧ (s.retention.begun = false →
              exits { s with retention := { s.retention with state := .running, participants := #v[false, false, false, false] } } .done)
            ∧ (s.retention.begun = true → exits s .busy))
      ∧ (s.retention.state = .retained →
          enters s .done ∧ exits ({ s with retention := s.retention.resumed } : State).conclude .done)
      ∧ (s.retention.state = .resuming → enters s .busy ∧ exits s .done)

/-- The Retention Controller's tests (R153, R154, R155, R159): the sequence begins when the queue is empty, every participant is
ACTIVE with debt 0 and no port transaction is on the channel; it ends when every participant is SELF, in RETAINED with RETAIN set or
in RESUMING when participant work waits; RESUMING ends when every participant is ACTIVE, with RETAIN set. -/
def Obligations.RetentionSequenceBeginsAndEnds : Prop :=
  ∀ s : State,
    let part (k : Cs) : Prop := s.retention.participants[k] = true
    let retainSet : FaultUnit := { s.faults with causes := { s.faults.causes with retain := true } }
    let begins : Prop :=
      s.retention.state = .draining ∧ s.retention.begun = false ∧ s.queue = []
        ∧ (∀ k : Cs, part k → s.slices[k].state = .active ∧ s.slices[k].debt = 0)
        ∧ ∀ w, s.channel.txn = some (.word w) → w.holder = .head
    let ends : Prop :=
      s.retention.state = .draining ∧ s.retention.begun = true ∧ ∀ k : Cs, part k → s.slices[k].state = .self
    let resumes : Prop := s.retention.state = .resuming ∧ ∀ k : Cs, part k → s.slices[k].state = .active
    let work : Prop :=
      (∃ (d : Descriptor) (t : Target), (s.sp.access = .hold .wake d ∨ s.sp.access = .hold .full d) ∧ d.target = some t ∧ part t.cs)
        ∨ (∃ (d : Descriptor) (t : Target), s.ap.phase = .wake ∧ s.ap.desc = some d ∧ d.target = some t ∧ part t.cs)
        ∨ ∃ e ∈ s.queue, part e.cs
    (begins →
        s.sequenceBegin =
          { s with
            retention := { s.retention with
              begun := true
              issued := Vector.ofFn (fun k : Fin 4 => if s.retention.participants[k] then some .enter else s.retention.issued[k]) } })
      ∧ (¬ begins → s.sequenceBegin = s)
      ∧ (ends → ¬ work →
          s.sequenceEnd = { s with retention := { s.retention with state := .retained, begun := false }, faults := retainSet })
      ∧ (ends → work → s.sequenceEnd = { s with retention := s.retention.resumed })
      ∧ (¬ ends → s.sequenceEnd = s)
      ∧ (resumes →
          s.resumeEnd =
            { s with
              retention := { s.retention with state := .running, begun := false, participants := #v[false, false, false, false] }
              faults := retainSet })
      ∧ (¬ resumes → s.resumeEnd = s)

/-! ### The Management Port -/

/-- FRAME_START takes the summary byte, whose bits are those of R172; a byte shifted in is received up to the commit point, moving the
frame through its opcode, argument and payload, and moves it after the command from the result through the data bytes to the trailing
ones; FRAME_END ends the frame, and a short one sets the last-frame error flag; a rise with no frame is MSEL_N seen released, and a
fall is taken only after that (R61, R171, R172, R173, R178). The sighting by a rise with no frame and the summary of the first frame
are the model's readings (logs 8 and 32), and so is when a byte is shifted (log 14). -/
def Obligations.FramesTakeTheSummaryAndFlagShortOnes : Prop :=
  (∀ s : State, s.resetAsserted = false →
    (s.mp.mselSeen = true → s.mp.frame = none →
        exec .frameStart s = .next
          { s with
            mp := { s.mp with frame := some { phase := .opcode, summary := s.summary, received := [], result := none, data := [] } } })
      ∧ (s.mp.mselSeen = false → exec .frameStart s = .next s)
      ∧ (∀ f, s.mp.frame = some f →
          exec .frameEnd s = .next
            { s with
              mp := { s.mp with
                frame := none
                errorFlag := if f.result = none then true else s.mp.errorFlag } })
      ∧ (s.mp.frame = none → exec .frameEnd s = .next { s with mp := { s.mp with mselSeen := true } })
      ∧ s.summary.toNat / 64 =
          (match s.retention.state with
            | .running => 0
            | .draining => 1
            | .retained => 2
            | .resuming => 3)
      ∧ s.summary.getLsbD 5 = s.faults.alert
      ∧ (s.summary.getLsbD 4 = true ↔ s.faults.log ≠ [])
      ∧ s.summary.getLsbD 3 = s.mp.errorFlag
      ∧ (s.summary.getLsbD 2 = true ↔ s.tables.watermark ≤ s.queue.length)
      ∧ (s.queue.length ≤ 16 → s.summary.toNat % 4 =
          if s.queue.length = 0 then 0 else if s.queue.length ≤ 7 then 1 else if s.queue.length ≤ 15 then 2 else 3))
    ∧ ∀ (f : Frame) (b : Byte),
      let payload (op : Byte) : Nat := if op = 0x21 then 8 else if op = 0x32 then 1 else 0
      (f.result = none → f.phase = .opcode → f.received = [] → f.shift b = { f with phase := .argument, received := [b] })
        ∧ (∀ op, f.result = none → f.phase = .argument → f.received = [op] →
            f.shift b = { f with phase := if payload op = 0 then .argument else .payload, received := [op, b] })
        ∧ (∀ op rest, f.result = none → f.phase = .payload → f.received = op :: rest → rest.length < 1 + payload op →
            f.shift b = { f with received := f.received ++ [b] })
        ∧ (f.phase = .result → f.shift b = { f with phase := if f.data = [] then .trailing else .data })
        ∧ (∀ x rest, f.phase = .data → f.data = x :: rest →
            f.shift b = { f with phase := if rest = [] then .trailing else .data, data := rest })
        ∧ (f.phase = .trailing → f.shift b = f)

/-- GET_SUMMARY returns the summary byte taken again, with DONE. When the last-frame error flag is set, the flag's bit in that byte
is a free value (log 11): the claim holds for either. -/
def Obligations.GetSummaryReturnsTheSummary : Prop :=
  ∀ (s : State) (f : Frame) (arg : Byte), s.AtCommit f [0x10, arg] →
    (s.mp.errorFlag = false → exec (.getSummary arg) s = .next (s.withResult f .done [s.summary]))
      ∧ (s.mp.errorFlag = true →
        ∃ b, exec (.getSummary arg) s =
          .next (({ s with draws := s.draws + 1 } : State).withResult f .done [s.summaryWith b]))

/-- READ_ITEM returns the record of the item that its argument byte names with DONE and changes nothing else (R20, R31, R60, R123, R124,
R150, R170, R174, R177); a frame that names no command, no item or a read-only item to write is refused with BAD_ITEM, READ_ITEM's eight
data bytes being FFh (R171, R173). The chip-select bits of a QUEUE record with no head are a free value (log 12): the claim holds for
each. The bits in no table of 11.6 read as 0 by the model's choice (log 31). Which frames each row stands for is the model's reading
(log 21). -/
def Obligations.ReadItemReturnsTheRecord : Prop :=
  ∀ (s : State) (f : Frame),
    let reads (arg : Byte) (x : List Byte) : Prop :=
      s.AtCommit f [0x20, arg] → exec (.readItem arg) s = .next (s.withResult f .done x)
    let refusedWith (c : Instr) (bytes data : List Byte) : Prop :=
      s.AtCommit f bytes → exec c s = .next (s.withResult f .badItem data)
    let en := s.faults.enables
    let part := s.retention.participants
    (∀ i : Fin 16, reads (BitVec.ofNat 8 (0x10 + i)) s.tables.regions[i].bytes)
      ∧ (∀ i : Fin 8, reads (BitVec.ofNat 8 (0x20 + i)) s.tables.profiles[i].bytes)
      ∧ (∀ k : Cs, reads (BitVec.ofNat 8 (0x30 + k)) (chipSelBytes s.tables.chipsels[k] s.slices[k]))
      ∧ (∀ k : Fin 4, reads (BitVec.ofNat 8 (0x40 + k)) s.tables.windows[k].bytes)
      ∧ (∀ e rest, s.queue = e :: rest →
          reads 0x50
            [BitVec.ofNat 8 s.queue.length, BitVec.ofNat 8 s.tables.watermark, BitVec.ofNat 8 (128 + e.cs),
              BitVec.ofNat 8 (e.phys.toNat / 65536), BitVec.ofNat 8 (e.phys.toNat / 256), BitVec.ofNat 8 e.phys.toNat, 0, 0])
      ∧ (s.queue = [] → s.AtCommit f [0x20, 0x50] →
          ∃ b : BitVec 2, exec (.readItem 0x50) s =
            .next (({ s with draws := s.draws + 1 } : State).withResult f .done
              [0, BitVec.ofNat 8 s.tables.watermark, BitVec.ofNat 8 b.toNat, 0, 0, 0, 0, 0]))
      ∧ reads 0x60
          [BitVec.ofNat 8 ((!s.faults.log.isEmpty).toNat * 16 + s.faults.causes.drop.toNat * 8 + s.faults.causes.late.toNat * 4
              + s.faults.causes.overrun.toNat * 2 + s.faults.causes.retain.toNat),
            BitVec.ofNat 8 (en.log.toNat * 16 + en.drop.toNat * 8 + en.late.toNat * 4 + en.overrun.toNat * 2 + en.retain.toNat),
            BitVec.ofNat 8 s.faults.dropped, BitVec.ofNat 8 (s.faults.serial.toNat / 256), BitVec.ofNat 8 s.faults.serial.toNat,
            0, 0, 0]
      ∧ reads 0x70
          [(match s.retention.state with
              | .running => 0
              | .draining => 1
              | .retained => 2
              | .resuming => 3),
            BitVec.ofNat 8 (part[3].toNat * 8 + part[2].toNat * 4 + part[1].toNat * 2 + part[0].toNat), 0, 0, 0, 0, 0, 0]
      ∧ reads 0x80 [0x0D, 0x64, 0x02, 0, 0, 0, 0, 0]
      ∧ (∀ (arg : Byte) (p : Payload),
          let n := arg.toNat
          n < 0x10 ∨ (0x28 ≤ n ∧ n < 0x30) ∨ (0x34 ≤ n ∧ n < 0x40) ∨ (0x44 ≤ n ∧ n < 0x50) ∨ (0x51 ≤ n ∧ n < 0x60)
              ∨ (0x61 ≤ n ∧ n < 0x70) ∨ (0x71 ≤ n ∧ n < 0x80) ∨ 0x81 ≤ n →
            refusedWith (.readItem arg) [0x20, arg] (List.replicate 8 0xFF)
              ∧ refusedWith (.unknownOpcode 0x20 arg p) [0x20, arg] (List.replicate 8 0xFF)
              ∧ refusedWith (.unknownOpcode 0x21 arg p) ([0x21, arg] ++ p.toList) [])
      ∧ (∀ (arg : Byte) (p : Payload), arg = 0x70 ∨ arg = 0x80 →
          refusedWith (.unknownOpcode 0x21 arg p) ([0x21, arg] ++ p.toList) [])
      ∧ ∀ (op arg : Byte) (p : Payload), op ∉ [0x10, 0x20, 0x21, 0x30, 0x31, 0x32, 0x40, 0x41, 0x5A] →
          refusedWith (.unknownOpcode op arg p) [op, arg] []

/-- WRITE_REGION, WRITE_PROFILE, WRITE_BANKWIN, WRITE_QUEUE_WATERMARK and WRITE_ALERT_ENABLES: a legal record replaces the item as a
whole with DONE; an illegal one is refused with BAD_VALUE and changes nothing (R18, R29, R42, R124, R170). -/
def Obligations.LegalRecordsReplaceTheItem : Prop :=
  ∀ (s : State) (f : Frame) (p : Payload),
    let gives (c : Instr) (arg : Byte) (x : State) (r : Result) : Prop :=
      s.AtCommit f ([0x21, arg] ++ p.toList) → exec c s = .next (x.withResult f r [])
    (∀ i : Fin 16,
        let r := regionOf p
        let arg := BitVec.ofNat 8 (0x10 + i)
        let legal : Prop :=
          r.valid = true →
            r.sizeCode.toNat ≤ 12 ∧ r.base.toNat % 2 ^ r.sizeCode.toNat = 0 ∧ (r.window.toNat ≤ 3 ∨ r.window = 0xFF)
              ∧ r.profile.toNat ≤ 7
        (legal → gives (.writeRegion i p) arg { s with tables := { s.tables with regions := s.tables.regions.set i r } } .done)
          ∧ (¬ legal → gives (.writeRegion i p) arg s .badValue))
      ∧ (∀ i : Fin 8,
        let limit := p[5].toNat * 256 + p[6].toNat
        let arg := BitVec.ofNat 8 (0x20 + i)
        let legal : Prop :=
          p[0].toNat ≤ 7 ∧ 1 ≤ p[1].toNat ∧ p[1].toNat ≤ 31 ∧ p[2].toNat ≤ 7 ∧ p[3].toNat ≤ 15 ∧ p[4].toNat ≤ 2
            ∧ 16 ≤ limit ∧ limit ≤ 1023
        (legal →
            gives (.writeProfile i p) arg
              { s with tables := { s.tables with
                  profiles := s.tables.profiles.set i
                    { setup := p[0].toNat, strobe := p[1].toNat, hold := p[2].toNat, recovery := p[3].toNat
                      mode := if p[4] = 0 then .none else if p[4] = 1 then .ready else .readyAfterStrobe
                      limit } } } .done)
          ∧ (¬ legal → gives (.writeProfile i p) arg s .badValue))
      ∧ (∀ k : Fin 4,
        let arg := BitVec.ofNat 8 (0x40 + k)
        (p[4].toNat ≤ 63 →
            gives (.writeBankwin k p) arg
              { s with tables := { s.tables with
                  windows := s.tables.windows.set k
                    { enable := p[0].getLsbD 0
                      addr := BitVec.ofNat 23 (p[1].toNat * 65536 + p[2].toNat * 256 + p[3].toNat)
                      bank := BitVec.ofNat 6 p[4].toNat } } } .done)
          ∧ (64 ≤ p[4].toNat → gives (.writeBankwin k p) arg s .badValue))
      ∧ (4 ≤ p[1].toNat → p[1].toNat ≤ 16 →
          gives (.writeQueueWatermark p) 0x50 { s with tables := { s.tables with watermark := p[1].toNat } } .done)
      ∧ (p[1].toNat < 4 ∨ 16 < p[1].toNat → gives (.writeQueueWatermark p) 0x50 s .badValue)
      ∧ gives (.writeAlertEnables p) 0x60
          { s with faults := { s.faults with
              enables :=
                { log := p[1].getLsbD 4, drop := p[1].getLsbD 3, late := p[1].getLsbD 2, overrun := p[1].getLsbD 1
                  retain := p[1].getLsbD 0 } } } .done

/-- WRITE_CHIPSEL: the checks of R119 in order, with the states that refuse a class change (R120) or an enable change (R122), and
the slice effects of a change that is taken (R121, R142, R143, R151); a refused write changes nothing. The order of the event's
tests and decision is the model's choice (log 9). -/
def Obligations.ChipSelectWriteIsCheckedAndTaken : Prop :=
  ∀ (s : State) (f : Frame) (k : Cs) (p : Payload), s.AtCommit f ([0x21, BitVec.ofNat 8 (0x30 + k)] ++ p.toList) →
    let c := chipSelOf p
    let old := s.tables.chipsels[k]
    let ranges : Prop := 64 ≤ c.interval ∧ 4 ≤ c.cycle ∧ 1 ≤ c.threshold ∧ 16 ≤ c.exitTime
    let enableFits : Prop := c.enable = true → c.cls = .dram
    let classRefused : Prop :=
      c.cls ≠ old.cls
        ∧ ((∃ e ∈ s.queue, e.cs = k) ∨ (∃ d t, s.sp.access = .hold .full d ∧ d.target = some t ∧ t.cs = k)
          ∨ (∃ x, s.channel.txn = some x ∧ x.cs = k) ∨ s.retention.state ≠ .running ∨ s.retention.issued[k] ≠ none)
    let enableRefused : Prop :=
      (old.enable = false ∧ c.enable = true
          ∧ (s.retention.state ≠ .running ∨ s.retention.issued[k] ≠ none ∨ ∃ w, s.channel.txn = some (.word w) ∧ w.cs = k))
        ∨ (old.enable = true ∧ c.enable = false ∧ (s.slices[k].state = .self ∨ s.slices[k].state = .waking))
    let written : State := { s with tables := { s.tables with chipsels := s.tables.chipsels.set k c } }
    let off : State :=
      { written with
        slices := s.slices.set k { s.slices[k] with state := .off, debt := 0, interval := none, exitTimer := none }
        retention := { s.retention with participants := s.retention.participants.set k false } }
    let warm : State :=
      { written with
        slices := s.slices.set k { s.slices[k] with state := .warmup, debt := 8, interval := none, exitTimer := none } }
    let gives (x : State) (r : Result) : Prop := exec (.writeChipsel k p) s = .next (x.withResult f r [])
    (¬ (ranges ∧ enableFits) → gives s .badValue)
      ∧ (ranges ∧ enableFits → classRefused ∨ enableRefused → gives s .wrongState)
      ∧ (ranges ∧ enableFits → ¬ classRefused → ¬ enableRefused →
          (old.cls = .dram ∧ c.cls ≠ .dram → gives off.conclude .done)
          ∧ (¬ (old.cls = .dram ∧ c.cls ≠ .dram) →
              (old.enable = false → c.enable = true → gives warm.conclude .done)
              ∧ (old.enable = true → c.enable = false → gives off.conclude .done)
              ∧ (old.enable = c.enable → gives written.conclude .done)))

/-- POP_FAULT and PEEK_FAULT return the oldest record, in the sixteen bytes of 11.6, or the empty marker, and only POP_FAULT removes it;
CLEAR_CAUSES clears the sticky causes its mask names, and the dropped count with DROP (R163, R166, R167, R169, R175, R177). A field whose
presence flag is clear reads as 0. Bits 3 and 2 of byte 13 and bits 5 and 4 of byte 14, which no table names, read as 0 by the model's
choice (log 31). -/
def Obligations.FaultLogCommandsReadAndClear : Prop :=
  ∀ (s : State) (f : Frame) (arg mask : Byte),
    let byte (n : Nat) : Byte := BitVec.ofNat 8 n
    let record (r : FaultRecord) : List Byte :=
      let o := r.occ
      let word := (o.word.getD 0).toNat
      let phys := (o.phys.getD 0).toNat
      let data := (o.data.getD 0).toNat
      let kind : Nat := match o.kind with
        | .decodeMiss => 1
        | .noAccess => 2
        | .readOnlyWrite => 3
        | .targetAbsent => 4
        | .auxDenied => 5
        | .burstSplit => 6
        | .deviceTimeout => 7
        | .lateWrite => 8
        | .refreshOverrun => 9
        | .hostWithdrawn => 10
      let source : Nat := match o.source with
        | .sp => 1
        | .ap => 2
        | .pwq => 3
        | .slice => 4
      let dir : Nat := match o.dir with
        | .read => 1
        | .write => 2
        | .none => 3
      let lanes : Nat := match o.lanes with
        | some .u => 2
        | some .l => 1
        | some .ul => 3
        | none => 0
      [byte (r.serial.toNat / 256), byte r.serial.toNat, byte kind, byte (source * 16 + dir),
        byte (o.word.isSome.toNat * 128 + o.lanes.isSome.toNat * 64 + o.burst.isSome.toNat * 32 + o.data.isSome.toNat * 16
          + o.region.isSome.toNat * 8 + o.cs.isSome.toNat * 4 + o.phys.isSome.toNat * 2),
        byte (word / 65536), byte (word / 256), byte word, byte (phys / 65536), byte (phys / 256), byte phys,
        byte (data / 256), byte data, byte ((o.region.getD 0).val * 16 + (o.cs.getD 0).val),
        byte (lanes * 64 + o.burst.getD 0 % 16), 0]
    let marker : List Byte := [byte (s.faults.serial.toNat / 256), byte s.faults.serial.toNat] ++ List.replicate 14 0
    (∀ r rest, s.faults.log = r :: rest →
        (s.AtCommit f [0x30, arg] →
            exec (.popFault arg) s =
              .next (({ s with faults := { s.faults with log := rest } } : State).withResult f .done (record r)))
          ∧ (s.AtCommit f [0x31, arg] → exec (.peekFault arg) s = .next (s.withResult f .done (record r))))
      ∧ (s.faults.log = [] →
          (s.AtCommit f [0x30, arg] → exec (.popFault arg) s = .next (s.withResult f .done marker))
            ∧ (s.AtCommit f [0x31, arg] → exec (.peekFault arg) s = .next (s.withResult f .done marker)))
      ∧ (s.AtCommit f [0x32, arg, mask] →
          exec (.clearCauses arg mask) s = .next
            (({ s with faults := { s.faults with
                causes :=
                  { drop := s.faults.causes.drop && !mask.getLsbD 3, late := s.faults.causes.late && !mask.getLsbD 2
                    overrun := s.faults.causes.overrun && !mask.getLsbD 1, retain := s.faults.causes.retain && !mask.getLsbD 0 }
                dropped := if mask.getLsbD 3 = true then 0 else s.faults.dropped } } : State).withResult f .done []))

/-- CONFIG_RESET is taken when its six conditions hold: the tables and the watermark take their reset values, every slice goes to OFF
with debt 0 and both timers stopped, and nothing else changes; otherwise it is refused with BUSY (R176). -/
def Obligations.ConfigResetNeedsAQuietPart : Prop :=
  ∀ (s : State) (f : Frame) (arg : Byte), s.AtCommit f [0x5A, arg] →
    let quiet : Prop :=
      s.queue = [] ∧ s.channel.txn = none ∧ (∀ r d, s.sp.access ≠ .hold r d)
        ∧ (s.ap.phase ≠ .order ∧ s.ap.phase ≠ .wake ∧ s.ap.phase ≠ .grant) ∧ s.retention.state = .running
        ∧ ∀ k : Cs, s.retention.issued[k] = none
    (quiet →
        ∃ off : Vector Slice 4,
          (∀ k : Cs, off[k].state = .off ∧ off[k].debt = 0 ∧ off[k].interval = none ∧ off[k].exitTimer = none)
            ∧ exec (.configReset arg) s = .next
                (({ s with tables := State.reset.tables, slices := off } : State).withResult f .done []))
      ∧ (¬ quiet → exec (.configReset arg) s = .next (s.withResult f .busy []))

/-- The fields of a REGION and a CHIPSEL payload; and a record written reads back as written, with the bits that 11.6 marks 0 read as
0; a CHIPSEL record carries the slice state and debt in byte 6, whose bit 7 reads as 0 by the model's choice (R20, R31, R123, R124, R177;
log 31). -/
def Obligations.RecordsReadBackAsWritten : Prop :=
  (∀ p : Payload,
    let r := regionOf p
    let c := chipSelOf p
    (r.valid = p[0].getLsbD 7 ∧ r.aux = p[0].getLsbD 6
        ∧ r.cls = (match p[0].toNat / 16 % 4 with
            | 0 => .none
            | 1 => .read
            | 2 => .posted
            | _ => .strict)
        ∧ r.sizeCode.toNat = p[0].toNat % 16 ∧ r.base.toNat = (p[1].toNat * 256 + p[2].toNat) % 4096
        ∧ r.offset.toNat = (p[3].toNat * 256 + p[4].toNat) % 4096 ∧ r.cs.val = p[5].toNat % 4 ∧ r.window = p[6] ∧ r.profile = p[7])
      ∧ c.cls = (match p[0].toNat / 64 with
          | 0 => .unused
          | 1 => .rom
          | 2 => .sram
          | _ => .dram)
      ∧ c.enable = p[0].getLsbD 5 ∧ c.threshold = p[0].toNat % 8 ∧ c.interval = p[1].toNat * 256 + p[2].toNat ∧ c.cycle = p[3].toNat
      ∧ c.exitTime = p[4].toNat * 256 + p[5].toNat)
    ∧ (∀ p : Payload, (regionOf p).bytes = [p[0], p[1] &&& 0x0F, p[2], p[3] &&& 0x0F, p[4], p[5] &&& 0x03, p[6], p[7]])
    ∧ (∀ (p : Payload) (sl : Slice), sl.debt ≤ 8 →
        ∃ b : Byte, chipSelBytes (chipSelOf p) sl = [p[0] &&& 0xE7, p[1], p[2], p[3], p[4], p[5], b, 0]
          ∧ b.toNat % 16 = sl.debt
          ∧ b.toNat / 16 =
              (match sl.state with
                | .off => 0
                | .warmup => 1
                | .active => 2
                | .self => 3
                | .waking => 4))
    ∧ (∀ (p : Payload) (x : Profile), profileOf p = some x → x.bytes = [p[0], p[1], p[2], p[3], p[4], p[5], p[6], 0])
    ∧ (∀ (p : Payload) (x : Window), windowOf p = some x → x.bytes = [p[0] &&& 0x01, p[1] &&& 0x7F, p[2], p[3], p[4], 0, 0, 0])

/-! ### Fault log and alert -/

/-- An occurrence takes the counter's serial, advances the counter modulo 65536, and is kept at the tail below 8 records or dropped,
with DROP set and the dropped count raised up to 255; LATE and OVERRUN are set by their kinds either way; no enable changes (R162,
R164, R168). -/
def Obligations.OccurrenceTakesTheNextSerial : Prop :=
  ∀ (u : FaultUnit) (o : Occurrence),
    let late := u.causes.late || decide (o.kind = .lateWrite)
    let overrun := u.causes.overrun || decide (o.kind = .refreshOverrun)
    (u.log.length < 8 →
        u.take o =
          { u with
            log := u.log ++ [{ serial := u.serial, occ := o }]
            serial := u.serial + 1
            causes := { u.causes with late, overrun } })
      ∧ (8 ≤ u.log.length →
        u.take o =
          { u with
            serial := u.serial + 1
            dropped := if u.dropped < 255 then u.dropped + 1 else 255
            causes := { u.causes with drop := true, late, overrun } })

/-- ALERT_N is asserted exactly while at least one alert cause and its enable are both set, LOG being set while the log holds a
record (R168, R170). -/
def Obligations.AlertWhileAnEnabledCauseIsSet : Prop :=
  ∀ s : State, s.alertN = true ↔
    (s.faults.log ≠ [] ∧ s.faults.enables.log = true) ∨ (s.faults.causes.drop = true ∧ s.faults.enables.drop = true)
      ∨ (s.faults.causes.late = true ∧ s.faults.enables.late = true)
      ∨ (s.faults.causes.overrun = true ∧ s.faults.enables.overrun = true)
      ∨ (s.faults.causes.retain = true ∧ s.faults.enables.retain = true)

/-- The output terminals. WAIT_N, ABORT_N and D by the access state (R71 to R73); AX_GNT, AX_END, AX_ERR and the driving of AX_DV and AX_D
by the port state, a beat for its CK period (R86, R94, R95; log 28); the memory terminals by the transaction and its phase: the chip
select and lanes from setup to hold and between the words of a burst, the strobe, the word that a write puts on MD with FFh in a lane
not written, MREF_N in a refresh, and everything but MA and MSR_N at rest in recovery and at a FREE channel (R125, R128, R130, R131,
R133); MSO by the frame's phase, high impedance with no frame and in reset (R171, R178; log 32). -/
def Obligations.OutputTerminalsFollowTheState : Prop :=
  ∀ s : State,
    let m := s.channel.terminals
    let rest : Prop := m.mcs = none ∧ m.mub = false ∧ m.mlb = false ∧ m.md = none
    (s.sp.waitN = true ↔
        (∃ r d, s.sp.access = .hold r d) ∨ (∃ d, s.sp.access = .channel false d)
          ∨ ((∃ d, s.sp.access = .channel true d) ∧ s.sp.deferred = true))
      ∧ (s.sp.abortN = true ↔ ∃ x d, s.sp.access = .answered .abort x d)
      ∧ (∀ a x d, s.sp.access = .answered a x d → s.sp.dOut = x)
      ∧ ((∀ a x d, s.sp.access ≠ .answered a x d) → s.sp.dOut = none)
      ∧ (s.ap.gnt = true ↔ s.ap.phase = .burst) ∧ (s.ap.endN = true ↔ s.ap.phase = .closing .done)
      ∧ (s.ap.errN = true ↔ s.ap.phase = .closing .err)
      ∧ (∀ w, s.ap.beat = some w → s.ap.axOut = .beat w)
      ∧ (∀ d, s.ap.beat = none → s.ap.phase = .burst → s.ap.desc = some d → d.dir = .read → s.ap.axOut = .quiet)
      ∧ (∀ d, s.ap.beat = none → s.ap.phase = .burst → s.ap.desc = some d → d.dir = .write → s.ap.axOut = .released)
      ∧ (s.ap.beat = none → s.ap.phase ≠ .burst → s.ap.axOut = .released)
      ∧ m.ma = s.channel.ma ∧ m.msr = s.channel.msr
      ∧ (m.moe = true ↔ ∃ w, s.channel.txn = some (.word w) ∧ w.dir = .read ∧ (w.phase = .strobe ∨ w.phase = .readyWait))
      ∧ (m.mwe = true ↔ ∃ w, s.channel.txn = some (.word w) ∧ w.dir = .write ∧ (w.phase = .strobe ∨ w.phase = .readyWait))
      ∧ (m.mref = true ↔ ∃ t, s.channel.txn = some (.slice t) ∧ t.op = .refresh)
      ∧ (s.channel.txn = none → rest)
      ∧ (∀ w, s.channel.txn = some (.word w) →
          let between : Prop := w.phase = .ended ∧ w.timedOut = false ∧ w.current + 1 < w.count
          (w.phase = .setup ∨ w.phase = .strobe ∨ w.phase = .readyWait ∨ w.phase = .hold ∨ between →
              m.mcs = some w.cs ∧ m.mub = w.lanes.hasU ∧ m.mlb = w.lanes.hasL
                ∧ (w.dir = .read → m.md = none)
                ∧ ∀ x, w.dir = .write → w.data[w.current]? = some x → m.md = some (laneWord w.lanes x))
            ∧ (w.phase = .recovery ∨ (w.phase = .ended ∧ ¬ between) → rest))
      ∧ (∀ t, s.channel.txn = some (.slice t) →
          m.mcs = (if t.op = .refresh then some t.cs else none) ∧ m.mub = false ∧ m.mlb = false ∧ m.md = none)
      ∧ (s.resetAsserted = true ∨ s.mp.frame = none → s.mso = none)
      ∧ ∀ f, s.resetAsserted = false → s.mp.frame = some f →
          (f.phase = .opcode → s.mso = some f.summary)
            ∧ (f.phase = .argument ∨ f.phase = .payload → s.mso = some 0)
            ∧ (∀ r, f.phase = .result → f.result = some r →
                s.mso = some (match r with
                  | .done => 0x00
                  | .busy => 0x01
                  | .badItem => 0x02
                  | .badValue => 0x03
                  | .wrongState => 0x04))
            ∧ (∀ x rest, f.phase = .data → f.data = x :: rest → s.mso = some x)
            ∧ (f.phase = .trailing → s.mso = some 0xFF)

/-! ### Invariants of every step -/

/-- State.reset has every invariant. -/
def Obligations.ResetStateHasEveryInvariant : Prop :=
  State.reset.CountsInRange ∧ State.reset.tables.Sound ∧ (∀ k : Cs, State.reset.slices[k].Sound) ∧ State.reset.QueueTargetsPosting
    ∧ State.reset.NoRequestAtFreeChannel ∧ State.reset.LockClearsQueue ∧ State.reset.HolderAgrees ∧ State.reset.BurstSound
    ∧ State.reset.NoWordWhileAsleep ∧ State.reset.RetentionSound ∧ State.reset.FrameSound

/-- Every step keeps the counts in range, the tables legal, each slice's debt and timers as its state says, and the frame in progress
as its phase says (R2, R18, R32, R42, R102, R118, R124, R136, R161, R171, R173). -/
def Obligations.StepKeepsCountsTablesAndSlicesInRange : Prop :=
  (∀ s s' : State, s.CountsInRange → s.tables.Sound → (∀ k : Cs, s.slices[k].Sound) → step s = .next s' →
      s'.CountsInRange ∧ s'.tables.Sound ∧ ∀ k : Cs, s'.slices[k].Sound)
    ∧ ∀ s s' : State, s.FrameSound → step s = .next s' → s'.FrameSound

/-- Every step keeps every queue entry on an SRAM or DRAM chip select (R34). -/
def Obligations.StepKeepsQueueOnPostingChipSelects : Prop :=
  ∀ s s' : State, s.QueueTargetsPosting → step s = .next s' → s'.QueueTargetsPosting

/-- Every step leaves no request standing at a FREE channel (R111). -/
def Obligations.StepLeavesNoRequestAtAFreeChannel : Prop :=
  ∀ s s' : State, s.NoRequestAtFreeChannel → step s = .next s' → s'.NoRequestAtFreeChannel

/-- Every step keeps the queue clear of the lock's chip select (R78). -/
def Obligations.StepKeepsTheLockedChipSelectUnqueued : Prop :=
  ∀ s s' : State, s.LockClearsQueue → step s = .next s' → s'.LockClearsQueue

/-- Every step keeps the channel's holder and its owner's state in agreement, and the Auxiliary Port's fields with its state (R45,
R56, R57, R70, R86, R93, R102). -/
def Obligations.StepKeepsHoldersAndBurstSound : Prop :=
  ∀ s s' : State, s.HolderAgrees → s.BurstSound → step s = .next s' → s'.HolderAgrees ∧ s'.BurstSound

/-- No word or burst transaction for a chip select is on the channel while that chip select's slice is WARMUP, SELF or WAKING: every
step keeps it so (R148). -/
def Obligations.NoWordOnTheChannelWhileAsleep : Prop :=
  ∀ s s' : State, s.NoWordWhileAsleep → step s = .next s' → s'.NoWordWhileAsleep

/-- Every step keeps the Retention Controller in agreement with the slices, the channel and the queue; and in RETAINED no slice is
WARMUP, ACTIVE or WAKING, and no queue entry targets a chip select whose slice is SELF (R156). -/
def Obligations.RetainedPartIsParked : Prop :=
  (∀ s s' : State, s.RetentionSound → step s = .next s' → s'.RetentionSound)
    ∧ ∀ s : State, s.RetentionSound → s.retention.state = .retained →
        (∀ k : Cs, s.slices[k].state ≠ .warmup ∧ s.slices[k].state ≠ .active ∧ s.slices[k].state ≠ .waking)
          ∧ ∀ e ∈ s.queue, s.slices[e.cs].state ≠ .self
end

