-- ==== Sys2Proof/Laws/State.lean ====
section
/-! SUPPORT. What each update of State does to each field: one lemma per field per update, true by rfl, so that no proof unfolds a
record update. -/

namespace Sys2Proof.Machine

/-! ### setTables -/

@[simp] theorem State.setTables_resetAsserted (s : State) (x : Tables) : (s.setTables x).resetAsserted = s.resetAsserted := rfl
@[simp] theorem State.setTables_tables (s : State) (x : Tables) : (s.setTables x).tables = x := rfl
@[simp] theorem State.setTables_queue (s : State) (x : Tables) : (s.setTables x).queue = s.queue := rfl
@[simp] theorem State.setTables_sp (s : State) (x : Tables) : (s.setTables x).sp = s.sp := rfl
@[simp] theorem State.setTables_ap (s : State) (x : Tables) : (s.setTables x).ap = s.ap := rfl
@[simp] theorem State.setTables_channel (s : State) (x : Tables) : (s.setTables x).channel = s.channel := rfl
@[simp] theorem State.setTables_slices (s : State) (x : Tables) : (s.setTables x).slices = s.slices := rfl
@[simp] theorem State.setTables_retention (s : State) (x : Tables) : (s.setTables x).retention = s.retention := rfl
@[simp] theorem State.setTables_faults (s : State) (x : Tables) : (s.setTables x).faults = s.faults := rfl
@[simp] theorem State.setTables_mp (s : State) (x : Tables) : (s.setTables x).mp = s.mp := rfl
@[simp] theorem State.setTables_draws (s : State) (x : Tables) : (s.setTables x).draws = s.draws := rfl
@[simp] theorem State.setTables_msi (s : State) (x : Tables) : (s.setTables x).msi = s.msi := rfl
@[simp] theorem State.setTables_pending (s : State) (x : Tables) : (s.setTables x).pending = s.pending := rfl

/-! ### setQueue -/

@[simp] theorem State.setQueue_resetAsserted (s : State) (x : List Entry) : (s.setQueue x).resetAsserted = s.resetAsserted := rfl
@[simp] theorem State.setQueue_tables (s : State) (x : List Entry) : (s.setQueue x).tables = s.tables := rfl
@[simp] theorem State.setQueue_queue (s : State) (x : List Entry) : (s.setQueue x).queue = x := rfl
@[simp] theorem State.setQueue_sp (s : State) (x : List Entry) : (s.setQueue x).sp = s.sp := rfl
@[simp] theorem State.setQueue_ap (s : State) (x : List Entry) : (s.setQueue x).ap = s.ap := rfl
@[simp] theorem State.setQueue_channel (s : State) (x : List Entry) : (s.setQueue x).channel = s.channel := rfl
@[simp] theorem State.setQueue_slices (s : State) (x : List Entry) : (s.setQueue x).slices = s.slices := rfl
@[simp] theorem State.setQueue_retention (s : State) (x : List Entry) : (s.setQueue x).retention = s.retention := rfl
@[simp] theorem State.setQueue_faults (s : State) (x : List Entry) : (s.setQueue x).faults = s.faults := rfl
@[simp] theorem State.setQueue_mp (s : State) (x : List Entry) : (s.setQueue x).mp = s.mp := rfl
@[simp] theorem State.setQueue_draws (s : State) (x : List Entry) : (s.setQueue x).draws = s.draws := rfl
@[simp] theorem State.setQueue_msi (s : State) (x : List Entry) : (s.setQueue x).msi = s.msi := rfl
@[simp] theorem State.setQueue_pending (s : State) (x : List Entry) : (s.setQueue x).pending = s.pending := rfl

/-! ### setSp -/

@[simp] theorem State.setSp_resetAsserted (s : State) (x : SysPort) : (s.setSp x).resetAsserted = s.resetAsserted := rfl
@[simp] theorem State.setSp_tables (s : State) (x : SysPort) : (s.setSp x).tables = s.tables := rfl
@[simp] theorem State.setSp_queue (s : State) (x : SysPort) : (s.setSp x).queue = s.queue := rfl
@[simp] theorem State.setSp_sp (s : State) (x : SysPort) : (s.setSp x).sp = x := rfl
@[simp] theorem State.setSp_ap (s : State) (x : SysPort) : (s.setSp x).ap = s.ap := rfl
@[simp] theorem State.setSp_channel (s : State) (x : SysPort) : (s.setSp x).channel = s.channel := rfl
@[simp] theorem State.setSp_slices (s : State) (x : SysPort) : (s.setSp x).slices = s.slices := rfl
@[simp] theorem State.setSp_retention (s : State) (x : SysPort) : (s.setSp x).retention = s.retention := rfl
@[simp] theorem State.setSp_faults (s : State) (x : SysPort) : (s.setSp x).faults = s.faults := rfl
@[simp] theorem State.setSp_mp (s : State) (x : SysPort) : (s.setSp x).mp = s.mp := rfl
@[simp] theorem State.setSp_draws (s : State) (x : SysPort) : (s.setSp x).draws = s.draws := rfl
@[simp] theorem State.setSp_msi (s : State) (x : SysPort) : (s.setSp x).msi = s.msi := rfl
@[simp] theorem State.setSp_pending (s : State) (x : SysPort) : (s.setSp x).pending = s.pending := rfl

/-! ### setAp -/

@[simp] theorem State.setAp_resetAsserted (s : State) (x : AuxPort) : (s.setAp x).resetAsserted = s.resetAsserted := rfl
@[simp] theorem State.setAp_tables (s : State) (x : AuxPort) : (s.setAp x).tables = s.tables := rfl
@[simp] theorem State.setAp_queue (s : State) (x : AuxPort) : (s.setAp x).queue = s.queue := rfl
@[simp] theorem State.setAp_sp (s : State) (x : AuxPort) : (s.setAp x).sp = s.sp := rfl
@[simp] theorem State.setAp_ap (s : State) (x : AuxPort) : (s.setAp x).ap = x := rfl
@[simp] theorem State.setAp_channel (s : State) (x : AuxPort) : (s.setAp x).channel = s.channel := rfl
@[simp] theorem State.setAp_slices (s : State) (x : AuxPort) : (s.setAp x).slices = s.slices := rfl
@[simp] theorem State.setAp_retention (s : State) (x : AuxPort) : (s.setAp x).retention = s.retention := rfl
@[simp] theorem State.setAp_faults (s : State) (x : AuxPort) : (s.setAp x).faults = s.faults := rfl
@[simp] theorem State.setAp_mp (s : State) (x : AuxPort) : (s.setAp x).mp = s.mp := rfl
@[simp] theorem State.setAp_draws (s : State) (x : AuxPort) : (s.setAp x).draws = s.draws := rfl
@[simp] theorem State.setAp_msi (s : State) (x : AuxPort) : (s.setAp x).msi = s.msi := rfl
@[simp] theorem State.setAp_pending (s : State) (x : AuxPort) : (s.setAp x).pending = s.pending := rfl

/-! ### setChannel -/

@[simp] theorem State.setChannel_resetAsserted (s : State) (x : Channel) : (s.setChannel x).resetAsserted = s.resetAsserted := rfl
@[simp] theorem State.setChannel_tables (s : State) (x : Channel) : (s.setChannel x).tables = s.tables := rfl
@[simp] theorem State.setChannel_queue (s : State) (x : Channel) : (s.setChannel x).queue = s.queue := rfl
@[simp] theorem State.setChannel_sp (s : State) (x : Channel) : (s.setChannel x).sp = s.sp := rfl
@[simp] theorem State.setChannel_ap (s : State) (x : Channel) : (s.setChannel x).ap = s.ap := rfl
@[simp] theorem State.setChannel_channel (s : State) (x : Channel) : (s.setChannel x).channel = x := rfl
@[simp] theorem State.setChannel_slices (s : State) (x : Channel) : (s.setChannel x).slices = s.slices := rfl
@[simp] theorem State.setChannel_retention (s : State) (x : Channel) : (s.setChannel x).retention = s.retention := rfl
@[simp] theorem State.setChannel_faults (s : State) (x : Channel) : (s.setChannel x).faults = s.faults := rfl
@[simp] theorem State.setChannel_mp (s : State) (x : Channel) : (s.setChannel x).mp = s.mp := rfl
@[simp] theorem State.setChannel_draws (s : State) (x : Channel) : (s.setChannel x).draws = s.draws := rfl
@[simp] theorem State.setChannel_msi (s : State) (x : Channel) : (s.setChannel x).msi = s.msi := rfl
@[simp] theorem State.setChannel_pending (s : State) (x : Channel) : (s.setChannel x).pending = s.pending := rfl

/-! ### setSlices -/

@[simp] theorem State.setSlices_resetAsserted (s : State) (x : Vector Slice 4) : (s.setSlices x).resetAsserted = s.resetAsserted := rfl
@[simp] theorem State.setSlices_tables (s : State) (x : Vector Slice 4) : (s.setSlices x).tables = s.tables := rfl
@[simp] theorem State.setSlices_queue (s : State) (x : Vector Slice 4) : (s.setSlices x).queue = s.queue := rfl
@[simp] theorem State.setSlices_sp (s : State) (x : Vector Slice 4) : (s.setSlices x).sp = s.sp := rfl
@[simp] theorem State.setSlices_ap (s : State) (x : Vector Slice 4) : (s.setSlices x).ap = s.ap := rfl
@[simp] theorem State.setSlices_channel (s : State) (x : Vector Slice 4) : (s.setSlices x).channel = s.channel := rfl
@[simp] theorem State.setSlices_slices (s : State) (x : Vector Slice 4) : (s.setSlices x).slices = x := rfl
@[simp] theorem State.setSlices_retention (s : State) (x : Vector Slice 4) : (s.setSlices x).retention = s.retention := rfl
@[simp] theorem State.setSlices_faults (s : State) (x : Vector Slice 4) : (s.setSlices x).faults = s.faults := rfl
@[simp] theorem State.setSlices_mp (s : State) (x : Vector Slice 4) : (s.setSlices x).mp = s.mp := rfl
@[simp] theorem State.setSlices_draws (s : State) (x : Vector Slice 4) : (s.setSlices x).draws = s.draws := rfl
@[simp] theorem State.setSlices_msi (s : State) (x : Vector Slice 4) : (s.setSlices x).msi = s.msi := rfl
@[simp] theorem State.setSlices_pending (s : State) (x : Vector Slice 4) : (s.setSlices x).pending = s.pending := rfl

/-! ### setRetention -/

@[simp] theorem State.setRetention_resetAsserted (s : State) (x : Retention) : (s.setRetention x).resetAsserted = s.resetAsserted := rfl
@[simp] theorem State.setRetention_tables (s : State) (x : Retention) : (s.setRetention x).tables = s.tables := rfl
@[simp] theorem State.setRetention_queue (s : State) (x : Retention) : (s.setRetention x).queue = s.queue := rfl
@[simp] theorem State.setRetention_sp (s : State) (x : Retention) : (s.setRetention x).sp = s.sp := rfl
@[simp] theorem State.setRetention_ap (s : State) (x : Retention) : (s.setRetention x).ap = s.ap := rfl
@[simp] theorem State.setRetention_channel (s : State) (x : Retention) : (s.setRetention x).channel = s.channel := rfl
@[simp] theorem State.setRetention_slices (s : State) (x : Retention) : (s.setRetention x).slices = s.slices := rfl
@[simp] theorem State.setRetention_retention (s : State) (x : Retention) : (s.setRetention x).retention = x := rfl
@[simp] theorem State.setRetention_faults (s : State) (x : Retention) : (s.setRetention x).faults = s.faults := rfl
@[simp] theorem State.setRetention_mp (s : State) (x : Retention) : (s.setRetention x).mp = s.mp := rfl
@[simp] theorem State.setRetention_draws (s : State) (x : Retention) : (s.setRetention x).draws = s.draws := rfl
@[simp] theorem State.setRetention_msi (s : State) (x : Retention) : (s.setRetention x).msi = s.msi := rfl
@[simp] theorem State.setRetention_pending (s : State) (x : Retention) : (s.setRetention x).pending = s.pending := rfl

/-! ### setFaults -/

@[simp] theorem State.setFaults_resetAsserted (s : State) (x : FaultUnit) : (s.setFaults x).resetAsserted = s.resetAsserted := rfl
@[simp] theorem State.setFaults_tables (s : State) (x : FaultUnit) : (s.setFaults x).tables = s.tables := rfl
@[simp] theorem State.setFaults_queue (s : State) (x : FaultUnit) : (s.setFaults x).queue = s.queue := rfl
@[simp] theorem State.setFaults_sp (s : State) (x : FaultUnit) : (s.setFaults x).sp = s.sp := rfl
@[simp] theorem State.setFaults_ap (s : State) (x : FaultUnit) : (s.setFaults x).ap = s.ap := rfl
@[simp] theorem State.setFaults_channel (s : State) (x : FaultUnit) : (s.setFaults x).channel = s.channel := rfl
@[simp] theorem State.setFaults_slices (s : State) (x : FaultUnit) : (s.setFaults x).slices = s.slices := rfl
@[simp] theorem State.setFaults_retention (s : State) (x : FaultUnit) : (s.setFaults x).retention = s.retention := rfl
@[simp] theorem State.setFaults_faults (s : State) (x : FaultUnit) : (s.setFaults x).faults = x := rfl
@[simp] theorem State.setFaults_mp (s : State) (x : FaultUnit) : (s.setFaults x).mp = s.mp := rfl
@[simp] theorem State.setFaults_draws (s : State) (x : FaultUnit) : (s.setFaults x).draws = s.draws := rfl
@[simp] theorem State.setFaults_msi (s : State) (x : FaultUnit) : (s.setFaults x).msi = s.msi := rfl
@[simp] theorem State.setFaults_pending (s : State) (x : FaultUnit) : (s.setFaults x).pending = s.pending := rfl

/-! ### setMp -/

@[simp] theorem State.setMp_resetAsserted (s : State) (x : MgmtPort) : (s.setMp x).resetAsserted = s.resetAsserted := rfl
@[simp] theorem State.setMp_tables (s : State) (x : MgmtPort) : (s.setMp x).tables = s.tables := rfl
@[simp] theorem State.setMp_queue (s : State) (x : MgmtPort) : (s.setMp x).queue = s.queue := rfl
@[simp] theorem State.setMp_sp (s : State) (x : MgmtPort) : (s.setMp x).sp = s.sp := rfl
@[simp] theorem State.setMp_ap (s : State) (x : MgmtPort) : (s.setMp x).ap = s.ap := rfl
@[simp] theorem State.setMp_channel (s : State) (x : MgmtPort) : (s.setMp x).channel = s.channel := rfl
@[simp] theorem State.setMp_slices (s : State) (x : MgmtPort) : (s.setMp x).slices = s.slices := rfl
@[simp] theorem State.setMp_retention (s : State) (x : MgmtPort) : (s.setMp x).retention = s.retention := rfl
@[simp] theorem State.setMp_faults (s : State) (x : MgmtPort) : (s.setMp x).faults = s.faults := rfl
@[simp] theorem State.setMp_mp (s : State) (x : MgmtPort) : (s.setMp x).mp = x := rfl
@[simp] theorem State.setMp_draws (s : State) (x : MgmtPort) : (s.setMp x).draws = s.draws := rfl
@[simp] theorem State.setMp_msi (s : State) (x : MgmtPort) : (s.setMp x).msi = s.msi := rfl
@[simp] theorem State.setMp_pending (s : State) (x : MgmtPort) : (s.setMp x).pending = s.pending := rfl

/-! ### setAccess -/

@[simp] theorem State.setAccess_resetAsserted (s : State) (a : SpAccess) : (s.setAccess a).resetAsserted = s.resetAsserted := rfl
@[simp] theorem State.setAccess_tables (s : State) (a : SpAccess) : (s.setAccess a).tables = s.tables := rfl
@[simp] theorem State.setAccess_queue (s : State) (a : SpAccess) : (s.setAccess a).queue = s.queue := rfl
@[simp] theorem State.setAccess_sp (s : State) (a : SpAccess) : (s.setAccess a).sp = { s.sp with access := a } := rfl
@[simp] theorem State.setAccess_ap (s : State) (a : SpAccess) : (s.setAccess a).ap = s.ap := rfl
@[simp] theorem State.setAccess_channel (s : State) (a : SpAccess) : (s.setAccess a).channel = s.channel := rfl
@[simp] theorem State.setAccess_slices (s : State) (a : SpAccess) : (s.setAccess a).slices = s.slices := rfl
@[simp] theorem State.setAccess_retention (s : State) (a : SpAccess) : (s.setAccess a).retention = s.retention := rfl
@[simp] theorem State.setAccess_faults (s : State) (a : SpAccess) : (s.setAccess a).faults = s.faults := rfl
@[simp] theorem State.setAccess_mp (s : State) (a : SpAccess) : (s.setAccess a).mp = s.mp := rfl
@[simp] theorem State.setAccess_draws (s : State) (a : SpAccess) : (s.setAccess a).draws = s.draws := rfl
@[simp] theorem State.setAccess_msi (s : State) (a : SpAccess) : (s.setAccess a).msi = s.msi := rfl
@[simp] theorem State.setAccess_pending (s : State) (a : SpAccess) : (s.setAccess a).pending = s.pending := rfl

/-! ### setApPhase -/

@[simp] theorem State.setApPhase_resetAsserted (s : State) (p : ApPhase) : (s.setApPhase p).resetAsserted = s.resetAsserted := rfl
@[simp] theorem State.setApPhase_tables (s : State) (p : ApPhase) : (s.setApPhase p).tables = s.tables := rfl
@[simp] theorem State.setApPhase_queue (s : State) (p : ApPhase) : (s.setApPhase p).queue = s.queue := rfl
@[simp] theorem State.setApPhase_sp (s : State) (p : ApPhase) : (s.setApPhase p).sp = s.sp := rfl
@[simp] theorem State.setApPhase_ap (s : State) (p : ApPhase) : (s.setApPhase p).ap = { s.ap with phase := p } := rfl
@[simp] theorem State.setApPhase_channel (s : State) (p : ApPhase) : (s.setApPhase p).channel = s.channel := rfl
@[simp] theorem State.setApPhase_slices (s : State) (p : ApPhase) : (s.setApPhase p).slices = s.slices := rfl
@[simp] theorem State.setApPhase_retention (s : State) (p : ApPhase) : (s.setApPhase p).retention = s.retention := rfl
@[simp] theorem State.setApPhase_faults (s : State) (p : ApPhase) : (s.setApPhase p).faults = s.faults := rfl
@[simp] theorem State.setApPhase_mp (s : State) (p : ApPhase) : (s.setApPhase p).mp = s.mp := rfl
@[simp] theorem State.setApPhase_draws (s : State) (p : ApPhase) : (s.setApPhase p).draws = s.draws := rfl
@[simp] theorem State.setApPhase_msi (s : State) (p : ApPhase) : (s.setApPhase p).msi = s.msi := rfl
@[simp] theorem State.setApPhase_pending (s : State) (p : ApPhase) : (s.setApPhase p).pending = s.pending := rfl

/-! ### setTxn -/

@[simp] theorem State.setTxn_resetAsserted (s : State) (t : Option Txn) : (s.setTxn t).resetAsserted = s.resetAsserted := rfl
@[simp] theorem State.setTxn_tables (s : State) (t : Option Txn) : (s.setTxn t).tables = s.tables := rfl
@[simp] theorem State.setTxn_queue (s : State) (t : Option Txn) : (s.setTxn t).queue = s.queue := rfl
@[simp] theorem State.setTxn_sp (s : State) (t : Option Txn) : (s.setTxn t).sp = s.sp := rfl
@[simp] theorem State.setTxn_ap (s : State) (t : Option Txn) : (s.setTxn t).ap = s.ap := rfl
@[simp] theorem State.setTxn_channel (s : State) (t : Option Txn) : (s.setTxn t).channel = { s.channel with txn := t } := rfl
@[simp] theorem State.setTxn_slices (s : State) (t : Option Txn) : (s.setTxn t).slices = s.slices := rfl
@[simp] theorem State.setTxn_retention (s : State) (t : Option Txn) : (s.setTxn t).retention = s.retention := rfl
@[simp] theorem State.setTxn_faults (s : State) (t : Option Txn) : (s.setTxn t).faults = s.faults := rfl
@[simp] theorem State.setTxn_mp (s : State) (t : Option Txn) : (s.setTxn t).mp = s.mp := rfl
@[simp] theorem State.setTxn_draws (s : State) (t : Option Txn) : (s.setTxn t).draws = s.draws := rfl
@[simp] theorem State.setTxn_msi (s : State) (t : Option Txn) : (s.setTxn t).msi = s.msi := rfl
@[simp] theorem State.setTxn_pending (s : State) (t : Option Txn) : (s.setTxn t).pending = s.pending := rfl

/-! ### setSlice -/

@[simp] theorem State.setSlice_resetAsserted (s : State) (k : Cs) (x : Slice) : (s.setSlice k x).resetAsserted = s.resetAsserted := rfl
@[simp] theorem State.setSlice_tables (s : State) (k : Cs) (x : Slice) : (s.setSlice k x).tables = s.tables := rfl
@[simp] theorem State.setSlice_queue (s : State) (k : Cs) (x : Slice) : (s.setSlice k x).queue = s.queue := rfl
@[simp] theorem State.setSlice_sp (s : State) (k : Cs) (x : Slice) : (s.setSlice k x).sp = s.sp := rfl
@[simp] theorem State.setSlice_ap (s : State) (k : Cs) (x : Slice) : (s.setSlice k x).ap = s.ap := rfl
@[simp] theorem State.setSlice_channel (s : State) (k : Cs) (x : Slice) : (s.setSlice k x).channel = s.channel := rfl
@[simp] theorem State.setSlice_slices (s : State) (k : Cs) (x : Slice) : (s.setSlice k x).slices = s.slices.set k x := rfl
@[simp] theorem State.setSlice_retention (s : State) (k : Cs) (x : Slice) : (s.setSlice k x).retention = s.retention := rfl
@[simp] theorem State.setSlice_faults (s : State) (k : Cs) (x : Slice) : (s.setSlice k x).faults = s.faults := rfl
@[simp] theorem State.setSlice_mp (s : State) (k : Cs) (x : Slice) : (s.setSlice k x).mp = s.mp := rfl
@[simp] theorem State.setSlice_draws (s : State) (k : Cs) (x : Slice) : (s.setSlice k x).draws = s.draws := rfl
@[simp] theorem State.setSlice_msi (s : State) (k : Cs) (x : Slice) : (s.setSlice k x).msi = s.msi := rfl
@[simp] theorem State.setSlice_pending (s : State) (k : Cs) (x : Slice) : (s.setSlice k x).pending = s.pending := rfl

end Sys2Proof.Machine
end

