-- ==== Sys2Proof/Laws/Ops.lean ====
section
/-! SUPPORT. What each shared operation leaves unchanged, one lemma per field, so that a proof about a command cites these and unfolds
no operation; then what the smaller operations answer. -/

namespace Sys2Proof.Machine

/-! ### deliver -/

@[simp] theorem State.deliver_resetAsserted (s : State) (o : Occurrence) : (s.deliver o).resetAsserted = s.resetAsserted := rfl
@[simp] theorem State.deliver_tables (s : State) (o : Occurrence) : (s.deliver o).tables = s.tables := rfl
@[simp] theorem State.deliver_queue (s : State) (o : Occurrence) : (s.deliver o).queue = s.queue := rfl
@[simp] theorem State.deliver_sp (s : State) (o : Occurrence) : (s.deliver o).sp = s.sp := rfl
@[simp] theorem State.deliver_ap (s : State) (o : Occurrence) : (s.deliver o).ap = s.ap := rfl
@[simp] theorem State.deliver_channel (s : State) (o : Occurrence) : (s.deliver o).channel = s.channel := rfl
@[simp] theorem State.deliver_slices (s : State) (o : Occurrence) : (s.deliver o).slices = s.slices := rfl
@[simp] theorem State.deliver_retention (s : State) (o : Occurrence) : (s.deliver o).retention = s.retention := rfl
@[simp] theorem State.deliver_mp (s : State) (o : Occurrence) : (s.deliver o).mp = s.mp := rfl
@[simp] theorem State.deliver_draws (s : State) (o : Occurrence) : (s.deliver o).draws = s.draws := rfl
@[simp] theorem State.deliver_msi (s : State) (o : Occurrence) : (s.deliver o).msi = s.msi := rfl
@[simp] theorem State.deliver_pending (s : State) (o : Occurrence) : (s.deliver o).pending = s.pending := rfl

@[simp] theorem State.deliver_faults (s : State) (o : Occurrence) : (s.deliver o).faults = s.faults.take o := rfl

/-! ### endLock -/

@[simp] theorem State.endLock_resetAsserted (s : State) : (s.endLock).resetAsserted = s.resetAsserted := rfl
@[simp] theorem State.endLock_tables (s : State) : (s.endLock).tables = s.tables := rfl
@[simp] theorem State.endLock_queue (s : State) : (s.endLock).queue = s.queue := rfl
@[simp] theorem State.endLock_ap (s : State) : (s.endLock).ap = s.ap := rfl
@[simp] theorem State.endLock_channel (s : State) : (s.endLock).channel = s.channel := rfl
@[simp] theorem State.endLock_slices (s : State) : (s.endLock).slices = s.slices := rfl
@[simp] theorem State.endLock_retention (s : State) : (s.endLock).retention = s.retention := rfl
@[simp] theorem State.endLock_faults (s : State) : (s.endLock).faults = s.faults := rfl
@[simp] theorem State.endLock_mp (s : State) : (s.endLock).mp = s.mp := rfl
@[simp] theorem State.endLock_draws (s : State) : (s.endLock).draws = s.draws := rfl
@[simp] theorem State.endLock_msi (s : State) : (s.endLock).msi = s.msi := rfl
@[simp] theorem State.endLock_pending (s : State) : (s.endLock).pending = s.pending := rfl

@[simp] theorem State.endLock_sp (s : State) : s.endLock.sp = { s.sp with lock := none } := rfl

/-! ### draw -/

@[simp] theorem State.draw_resetAsserted (s : State) : (s.draw).resetAsserted = s.resetAsserted := rfl
@[simp] theorem State.draw_tables (s : State) : (s.draw).tables = s.tables := rfl
@[simp] theorem State.draw_queue (s : State) : (s.draw).queue = s.queue := rfl
@[simp] theorem State.draw_sp (s : State) : (s.draw).sp = s.sp := rfl
@[simp] theorem State.draw_ap (s : State) : (s.draw).ap = s.ap := rfl
@[simp] theorem State.draw_channel (s : State) : (s.draw).channel = s.channel := rfl
@[simp] theorem State.draw_slices (s : State) : (s.draw).slices = s.slices := rfl
@[simp] theorem State.draw_retention (s : State) : (s.draw).retention = s.retention := rfl
@[simp] theorem State.draw_faults (s : State) : (s.draw).faults = s.faults := rfl
@[simp] theorem State.draw_mp (s : State) : (s.draw).mp = s.mp := rfl
@[simp] theorem State.draw_msi (s : State) : (s.draw).msi = s.msi := rfl
@[simp] theorem State.draw_pending (s : State) : (s.draw).pending = s.pending := rfl

/-! ### beginWord -/

@[simp] theorem State.beginWord_resetAsserted (s : State) (h : WordHolder) (d : Direction) (t : Target) (n : Nat) (m : Lanes) (x : List BusWord) : (s.beginWord h d t n m x).resetAsserted = s.resetAsserted := rfl
@[simp] theorem State.beginWord_tables (s : State) (h : WordHolder) (d : Direction) (t : Target) (n : Nat) (m : Lanes) (x : List BusWord) : (s.beginWord h d t n m x).tables = s.tables := rfl
@[simp] theorem State.beginWord_queue (s : State) (h : WordHolder) (d : Direction) (t : Target) (n : Nat) (m : Lanes) (x : List BusWord) : (s.beginWord h d t n m x).queue = s.queue := rfl
@[simp] theorem State.beginWord_sp (s : State) (h : WordHolder) (d : Direction) (t : Target) (n : Nat) (m : Lanes) (x : List BusWord) : (s.beginWord h d t n m x).sp = s.sp := rfl
@[simp] theorem State.beginWord_ap (s : State) (h : WordHolder) (d : Direction) (t : Target) (n : Nat) (m : Lanes) (x : List BusWord) : (s.beginWord h d t n m x).ap = s.ap := rfl
@[simp] theorem State.beginWord_slices (s : State) (h : WordHolder) (d : Direction) (t : Target) (n : Nat) (m : Lanes) (x : List BusWord) : (s.beginWord h d t n m x).slices = s.slices := rfl
@[simp] theorem State.beginWord_retention (s : State) (h : WordHolder) (d : Direction) (t : Target) (n : Nat) (m : Lanes) (x : List BusWord) : (s.beginWord h d t n m x).retention = s.retention := rfl
@[simp] theorem State.beginWord_faults (s : State) (h : WordHolder) (d : Direction) (t : Target) (n : Nat) (m : Lanes) (x : List BusWord) : (s.beginWord h d t n m x).faults = s.faults := rfl
@[simp] theorem State.beginWord_mp (s : State) (h : WordHolder) (d : Direction) (t : Target) (n : Nat) (m : Lanes) (x : List BusWord) : (s.beginWord h d t n m x).mp = s.mp := rfl
@[simp] theorem State.beginWord_draws (s : State) (h : WordHolder) (d : Direction) (t : Target) (n : Nat) (m : Lanes) (x : List BusWord) : (s.beginWord h d t n m x).draws = s.draws := rfl
@[simp] theorem State.beginWord_msi (s : State) (h : WordHolder) (d : Direction) (t : Target) (n : Nat) (m : Lanes) (x : List BusWord) : (s.beginWord h d t n m x).msi = s.msi := rfl
@[simp] theorem State.beginWord_pending (s : State) (h : WordHolder) (d : Direction) (t : Target) (n : Nat) (m : Lanes) (x : List BusWord) : (s.beginWord h d t n m x).pending = s.pending := rfl

/-! ### beginSlice -/

@[simp] theorem State.beginSlice_resetAsserted (s : State) (k : Cs) (op : SliceOp) : (s.beginSlice k op).resetAsserted = s.resetAsserted := rfl
@[simp] theorem State.beginSlice_tables (s : State) (k : Cs) (op : SliceOp) : (s.beginSlice k op).tables = s.tables := rfl
@[simp] theorem State.beginSlice_queue (s : State) (k : Cs) (op : SliceOp) : (s.beginSlice k op).queue = s.queue := rfl
@[simp] theorem State.beginSlice_sp (s : State) (k : Cs) (op : SliceOp) : (s.beginSlice k op).sp = s.sp := rfl
@[simp] theorem State.beginSlice_ap (s : State) (k : Cs) (op : SliceOp) : (s.beginSlice k op).ap = s.ap := rfl
@[simp] theorem State.beginSlice_slices (s : State) (k : Cs) (op : SliceOp) : (s.beginSlice k op).slices = s.slices := rfl
@[simp] theorem State.beginSlice_retention (s : State) (k : Cs) (op : SliceOp) : (s.beginSlice k op).retention = s.retention := rfl
@[simp] theorem State.beginSlice_faults (s : State) (k : Cs) (op : SliceOp) : (s.beginSlice k op).faults = s.faults := rfl
@[simp] theorem State.beginSlice_mp (s : State) (k : Cs) (op : SliceOp) : (s.beginSlice k op).mp = s.mp := rfl
@[simp] theorem State.beginSlice_draws (s : State) (k : Cs) (op : SliceOp) : (s.beginSlice k op).draws = s.draws := rfl
@[simp] theorem State.beginSlice_msi (s : State) (k : Cs) (op : SliceOp) : (s.beginSlice k op).msi = s.msi := rfl
@[simp] theorem State.beginSlice_pending (s : State) (k : Cs) (op : SliceOp) : (s.beginSlice k op).pending = s.pending := rfl

/-! ### depart -/

@[simp] theorem State.depart_resetAsserted (s : State) (k : Cs) : (s.depart k).resetAsserted = s.resetAsserted := rfl
@[simp] theorem State.depart_tables (s : State) (k : Cs) : (s.depart k).tables = s.tables := rfl
@[simp] theorem State.depart_queue (s : State) (k : Cs) : (s.depart k).queue = s.queue := rfl
@[simp] theorem State.depart_sp (s : State) (k : Cs) : (s.depart k).sp = s.sp := rfl
@[simp] theorem State.depart_ap (s : State) (k : Cs) : (s.depart k).ap = s.ap := rfl
@[simp] theorem State.depart_channel (s : State) (k : Cs) : (s.depart k).channel = s.channel := rfl
@[simp] theorem State.depart_slices (s : State) (k : Cs) : (s.depart k).slices = s.slices := rfl
@[simp] theorem State.depart_faults (s : State) (k : Cs) : (s.depart k).faults = s.faults := rfl
@[simp] theorem State.depart_mp (s : State) (k : Cs) : (s.depart k).mp = s.mp := rfl
@[simp] theorem State.depart_draws (s : State) (k : Cs) : (s.depart k).draws = s.draws := rfl
@[simp] theorem State.depart_msi (s : State) (k : Cs) : (s.depart k).msi = s.msi := rfl
@[simp] theorem State.depart_pending (s : State) (k : Cs) : (s.depart k).pending = s.pending := rfl

/-! ### enterResuming -/

@[simp] theorem State.enterResuming_resetAsserted (s : State) : (s.enterResuming).resetAsserted = s.resetAsserted := rfl
@[simp] theorem State.enterResuming_tables (s : State) : (s.enterResuming).tables = s.tables := rfl
@[simp] theorem State.enterResuming_queue (s : State) : (s.enterResuming).queue = s.queue := rfl
@[simp] theorem State.enterResuming_sp (s : State) : (s.enterResuming).sp = s.sp := rfl
@[simp] theorem State.enterResuming_ap (s : State) : (s.enterResuming).ap = s.ap := rfl
@[simp] theorem State.enterResuming_channel (s : State) : (s.enterResuming).channel = s.channel := rfl
@[simp] theorem State.enterResuming_slices (s : State) : (s.enterResuming).slices = s.slices := rfl
@[simp] theorem State.enterResuming_faults (s : State) : (s.enterResuming).faults = s.faults := rfl
@[simp] theorem State.enterResuming_mp (s : State) : (s.enterResuming).mp = s.mp := rfl
@[simp] theorem State.enterResuming_draws (s : State) : (s.enterResuming).draws = s.draws := rfl
@[simp] theorem State.enterResuming_msi (s : State) : (s.enterResuming).msi = s.msi := rfl
@[simp] theorem State.enterResuming_pending (s : State) : (s.enterResuming).pending = s.pending := rfl

/-! ### period -/

@[simp] theorem State.period_resetAsserted (s : State) : (s.period).resetAsserted = s.resetAsserted := rfl
@[simp] theorem State.period_tables (s : State) : (s.period).tables = s.tables := rfl
@[simp] theorem State.period_queue (s : State) : (s.period).queue = s.queue := rfl
@[simp] theorem State.period_sp (s : State) : (s.period).sp = s.sp := rfl
@[simp] theorem State.period_retention (s : State) : (s.period).retention = s.retention := rfl
@[simp] theorem State.period_faults (s : State) : (s.period).faults = s.faults := rfl
@[simp] theorem State.period_draws (s : State) : (s.period).draws = s.draws := rfl
@[simp] theorem State.period_pending (s : State) : (s.period).pending = s.pending := rfl

/-! ### idleStep -/

@[simp] theorem State.idleStep_resetAsserted (s : State) : (s.idleStep).resetAsserted = s.resetAsserted := by
  unfold State.idleStep; split <;> simp
@[simp] theorem State.idleStep_tables (s : State) : (s.idleStep).tables = s.tables := by
  unfold State.idleStep; split <;> simp
@[simp] theorem State.idleStep_queue (s : State) : (s.idleStep).queue = s.queue := by
  unfold State.idleStep; split <;> simp
@[simp] theorem State.idleStep_sp (s : State) : (s.idleStep).sp = s.sp := by
  unfold State.idleStep; split <;> simp
@[simp] theorem State.idleStep_retention (s : State) : (s.idleStep).retention = s.retention := by
  unfold State.idleStep; split <;> simp
@[simp] theorem State.idleStep_faults (s : State) : (s.idleStep).faults = s.faults := by
  unfold State.idleStep; split <;> simp
@[simp] theorem State.idleStep_draws (s : State) : (s.idleStep).draws = s.draws := by
  unfold State.idleStep; split <;> simp
@[simp] theorem State.idleStep_pending (s : State) : (s.idleStep).pending = s.pending := by
  unfold State.idleStep; split <;> simp

/-! ### autoResume -/

@[simp] theorem State.autoResume_resetAsserted (s : State) (d : Descriptor) : (s.autoResume d).resetAsserted = s.resetAsserted := by
  unfold State.autoResume; split <;> simp
@[simp] theorem State.autoResume_tables (s : State) (d : Descriptor) : (s.autoResume d).tables = s.tables := by
  unfold State.autoResume; split <;> simp
@[simp] theorem State.autoResume_queue (s : State) (d : Descriptor) : (s.autoResume d).queue = s.queue := by
  unfold State.autoResume; split <;> simp
@[simp] theorem State.autoResume_sp (s : State) (d : Descriptor) : (s.autoResume d).sp = s.sp := by
  unfold State.autoResume; split <;> simp
@[simp] theorem State.autoResume_ap (s : State) (d : Descriptor) : (s.autoResume d).ap = s.ap := by
  unfold State.autoResume; split <;> simp
@[simp] theorem State.autoResume_channel (s : State) (d : Descriptor) : (s.autoResume d).channel = s.channel := by
  unfold State.autoResume; split <;> simp
@[simp] theorem State.autoResume_slices (s : State) (d : Descriptor) : (s.autoResume d).slices = s.slices := by
  unfold State.autoResume; split <;> simp
@[simp] theorem State.autoResume_faults (s : State) (d : Descriptor) : (s.autoResume d).faults = s.faults := by
  unfold State.autoResume; split <;> simp
@[simp] theorem State.autoResume_mp (s : State) (d : Descriptor) : (s.autoResume d).mp = s.mp := by
  unfold State.autoResume; split <;> simp
@[simp] theorem State.autoResume_draws (s : State) (d : Descriptor) : (s.autoResume d).draws = s.draws := by
  unfold State.autoResume; split <;> simp
@[simp] theorem State.autoResume_msi (s : State) (d : Descriptor) : (s.autoResume d).msi = s.msi := by
  unfold State.autoResume; split <;> simp
@[simp] theorem State.autoResume_pending (s : State) (d : Descriptor) : (s.autoResume d).pending = s.pending := by
  unfold State.autoResume; split <;> simp

/-! ### rewakeSp -/

@[simp] theorem State.rewakeSp_resetAsserted (s : State) : (s.rewakeSp).resetAsserted = s.resetAsserted := by
  unfold State.rewakeSp; repeat' split
  all_goals simp
@[simp] theorem State.rewakeSp_tables (s : State) : (s.rewakeSp).tables = s.tables := by
  unfold State.rewakeSp; repeat' split
  all_goals simp
@[simp] theorem State.rewakeSp_queue (s : State) : (s.rewakeSp).queue = s.queue := by
  unfold State.rewakeSp; repeat' split
  all_goals simp
@[simp] theorem State.rewakeSp_ap (s : State) : (s.rewakeSp).ap = s.ap := by
  unfold State.rewakeSp; repeat' split
  all_goals simp
@[simp] theorem State.rewakeSp_channel (s : State) : (s.rewakeSp).channel = s.channel := by
  unfold State.rewakeSp; repeat' split
  all_goals simp
@[simp] theorem State.rewakeSp_slices (s : State) : (s.rewakeSp).slices = s.slices := by
  unfold State.rewakeSp; repeat' split
  all_goals simp
@[simp] theorem State.rewakeSp_retention (s : State) : (s.rewakeSp).retention = s.retention := by
  unfold State.rewakeSp; repeat' split
  all_goals simp
@[simp] theorem State.rewakeSp_faults (s : State) : (s.rewakeSp).faults = s.faults := by
  unfold State.rewakeSp; repeat' split
  all_goals simp
@[simp] theorem State.rewakeSp_mp (s : State) : (s.rewakeSp).mp = s.mp := by
  unfold State.rewakeSp; repeat' split
  all_goals simp
@[simp] theorem State.rewakeSp_draws (s : State) : (s.rewakeSp).draws = s.draws := by
  unfold State.rewakeSp; repeat' split
  all_goals simp
@[simp] theorem State.rewakeSp_msi (s : State) : (s.rewakeSp).msi = s.msi := by
  unfold State.rewakeSp; repeat' split
  all_goals simp
@[simp] theorem State.rewakeSp_pending (s : State) : (s.rewakeSp).pending = s.pending := by
  unfold State.rewakeSp; repeat' split
  all_goals simp

/-! ### rewakeAp -/

@[simp] theorem State.rewakeAp_resetAsserted (s : State) : (s.rewakeAp).resetAsserted = s.resetAsserted := by
  unfold State.rewakeAp; repeat' split
  all_goals simp
@[simp] theorem State.rewakeAp_tables (s : State) : (s.rewakeAp).tables = s.tables := by
  unfold State.rewakeAp; repeat' split
  all_goals simp
@[simp] theorem State.rewakeAp_queue (s : State) : (s.rewakeAp).queue = s.queue := by
  unfold State.rewakeAp; repeat' split
  all_goals simp
@[simp] theorem State.rewakeAp_sp (s : State) : (s.rewakeAp).sp = s.sp := by
  unfold State.rewakeAp; repeat' split
  all_goals simp
@[simp] theorem State.rewakeAp_slices (s : State) : (s.rewakeAp).slices = s.slices := by
  unfold State.rewakeAp; repeat' split
  all_goals simp
@[simp] theorem State.rewakeAp_retention (s : State) : (s.rewakeAp).retention = s.retention := by
  unfold State.rewakeAp; repeat' split
  all_goals simp
@[simp] theorem State.rewakeAp_faults (s : State) : (s.rewakeAp).faults = s.faults := by
  unfold State.rewakeAp; repeat' split
  all_goals simp
@[simp] theorem State.rewakeAp_mp (s : State) : (s.rewakeAp).mp = s.mp := by
  unfold State.rewakeAp; repeat' split
  all_goals simp
@[simp] theorem State.rewakeAp_draws (s : State) : (s.rewakeAp).draws = s.draws := by
  unfold State.rewakeAp; repeat' split
  all_goals simp
@[simp] theorem State.rewakeAp_msi (s : State) : (s.rewakeAp).msi = s.msi := by
  unfold State.rewakeAp; repeat' split
  all_goals simp
@[simp] theorem State.rewakeAp_pending (s : State) : (s.rewakeAp).pending = s.pending := by
  unfold State.rewakeAp; repeat' split
  all_goals simp

/-! ### rewake -/

@[simp] theorem State.rewake_resetAsserted (s : State) : (s.rewake).resetAsserted = s.resetAsserted := by
  simp [State.rewake]
@[simp] theorem State.rewake_tables (s : State) : (s.rewake).tables = s.tables := by
  simp [State.rewake]
@[simp] theorem State.rewake_queue (s : State) : (s.rewake).queue = s.queue := by
  simp [State.rewake]
@[simp] theorem State.rewake_slices (s : State) : (s.rewake).slices = s.slices := by
  simp [State.rewake]
@[simp] theorem State.rewake_retention (s : State) : (s.rewake).retention = s.retention := by
  simp [State.rewake]
@[simp] theorem State.rewake_faults (s : State) : (s.rewake).faults = s.faults := by
  simp [State.rewake]
@[simp] theorem State.rewake_mp (s : State) : (s.rewake).mp = s.mp := by
  simp [State.rewake]
@[simp] theorem State.rewake_draws (s : State) : (s.rewake).draws = s.draws := by
  simp [State.rewake]
@[simp] theorem State.rewake_msi (s : State) : (s.rewake).msi = s.msi := by
  simp [State.rewake]
@[simp] theorem State.rewake_pending (s : State) : (s.rewake).pending = s.pending := by
  simp [State.rewake]

/-! ### sequenceBegin -/

@[simp] theorem State.sequenceBegin_resetAsserted (s : State) : (s.sequenceBegin).resetAsserted = s.resetAsserted := by
  unfold State.sequenceBegin; split <;> simp
@[simp] theorem State.sequenceBegin_tables (s : State) : (s.sequenceBegin).tables = s.tables := by
  unfold State.sequenceBegin; split <;> simp
@[simp] theorem State.sequenceBegin_queue (s : State) : (s.sequenceBegin).queue = s.queue := by
  unfold State.sequenceBegin; split <;> simp
@[simp] theorem State.sequenceBegin_sp (s : State) : (s.sequenceBegin).sp = s.sp := by
  unfold State.sequenceBegin; split <;> simp
@[simp] theorem State.sequenceBegin_ap (s : State) : (s.sequenceBegin).ap = s.ap := by
  unfold State.sequenceBegin; split <;> simp
@[simp] theorem State.sequenceBegin_channel (s : State) : (s.sequenceBegin).channel = s.channel := by
  unfold State.sequenceBegin; split <;> simp
@[simp] theorem State.sequenceBegin_slices (s : State) : (s.sequenceBegin).slices = s.slices := by
  unfold State.sequenceBegin; split <;> simp
@[simp] theorem State.sequenceBegin_faults (s : State) : (s.sequenceBegin).faults = s.faults := by
  unfold State.sequenceBegin; split <;> simp
@[simp] theorem State.sequenceBegin_mp (s : State) : (s.sequenceBegin).mp = s.mp := by
  unfold State.sequenceBegin; split <;> simp
@[simp] theorem State.sequenceBegin_draws (s : State) : (s.sequenceBegin).draws = s.draws := by
  unfold State.sequenceBegin; split <;> simp
@[simp] theorem State.sequenceBegin_msi (s : State) : (s.sequenceBegin).msi = s.msi := by
  unfold State.sequenceBegin; split <;> simp
@[simp] theorem State.sequenceBegin_pending (s : State) : (s.sequenceBegin).pending = s.pending := by
  unfold State.sequenceBegin; split <;> simp

/-! ### sequenceEnd -/

@[simp] theorem State.sequenceEnd_resetAsserted (s : State) : (s.sequenceEnd).resetAsserted = s.resetAsserted := by
  unfold State.sequenceEnd; repeat' split
  all_goals simp
@[simp] theorem State.sequenceEnd_tables (s : State) : (s.sequenceEnd).tables = s.tables := by
  unfold State.sequenceEnd; repeat' split
  all_goals simp
@[simp] theorem State.sequenceEnd_queue (s : State) : (s.sequenceEnd).queue = s.queue := by
  unfold State.sequenceEnd; repeat' split
  all_goals simp
@[simp] theorem State.sequenceEnd_sp (s : State) : (s.sequenceEnd).sp = s.sp := by
  unfold State.sequenceEnd; repeat' split
  all_goals simp
@[simp] theorem State.sequenceEnd_ap (s : State) : (s.sequenceEnd).ap = s.ap := by
  unfold State.sequenceEnd; repeat' split
  all_goals simp
@[simp] theorem State.sequenceEnd_channel (s : State) : (s.sequenceEnd).channel = s.channel := by
  unfold State.sequenceEnd; repeat' split
  all_goals simp
@[simp] theorem State.sequenceEnd_slices (s : State) : (s.sequenceEnd).slices = s.slices := by
  unfold State.sequenceEnd; repeat' split
  all_goals simp
@[simp] theorem State.sequenceEnd_mp (s : State) : (s.sequenceEnd).mp = s.mp := by
  unfold State.sequenceEnd; repeat' split
  all_goals simp
@[simp] theorem State.sequenceEnd_draws (s : State) : (s.sequenceEnd).draws = s.draws := by
  unfold State.sequenceEnd; repeat' split
  all_goals simp
@[simp] theorem State.sequenceEnd_msi (s : State) : (s.sequenceEnd).msi = s.msi := by
  unfold State.sequenceEnd; repeat' split
  all_goals simp
@[simp] theorem State.sequenceEnd_pending (s : State) : (s.sequenceEnd).pending = s.pending := by
  unfold State.sequenceEnd; repeat' split
  all_goals simp

/-! ### resumeEnd -/

@[simp] theorem State.resumeEnd_resetAsserted (s : State) : (s.resumeEnd).resetAsserted = s.resetAsserted := by
  unfold State.resumeEnd; split <;> simp
@[simp] theorem State.resumeEnd_tables (s : State) : (s.resumeEnd).tables = s.tables := by
  unfold State.resumeEnd; split <;> simp
@[simp] theorem State.resumeEnd_queue (s : State) : (s.resumeEnd).queue = s.queue := by
  unfold State.resumeEnd; split <;> simp
@[simp] theorem State.resumeEnd_sp (s : State) : (s.resumeEnd).sp = s.sp := by
  unfold State.resumeEnd; split <;> simp
@[simp] theorem State.resumeEnd_ap (s : State) : (s.resumeEnd).ap = s.ap := by
  unfold State.resumeEnd; split <;> simp
@[simp] theorem State.resumeEnd_channel (s : State) : (s.resumeEnd).channel = s.channel := by
  unfold State.resumeEnd; split <;> simp
@[simp] theorem State.resumeEnd_slices (s : State) : (s.resumeEnd).slices = s.slices := by
  unfold State.resumeEnd; split <;> simp
@[simp] theorem State.resumeEnd_mp (s : State) : (s.resumeEnd).mp = s.mp := by
  unfold State.resumeEnd; split <;> simp
@[simp] theorem State.resumeEnd_draws (s : State) : (s.resumeEnd).draws = s.draws := by
  unfold State.resumeEnd; split <;> simp
@[simp] theorem State.resumeEnd_msi (s : State) : (s.resumeEnd).msi = s.msi := by
  unfold State.resumeEnd; split <;> simp
@[simp] theorem State.resumeEnd_pending (s : State) : (s.resumeEnd).pending = s.pending := by
  unfold State.resumeEnd; split <;> simp

/-! ### settle -/

@[simp] theorem State.settle_resetAsserted (s : State) : (s.settle).resetAsserted = s.resetAsserted := by
  simp [State.settle]
@[simp] theorem State.settle_tables (s : State) : (s.settle).tables = s.tables := by
  simp [State.settle]
@[simp] theorem State.settle_queue (s : State) : (s.settle).queue = s.queue := by
  simp [State.settle]
@[simp] theorem State.settle_slices (s : State) : (s.settle).slices = s.slices := by
  simp [State.settle]
@[simp] theorem State.settle_mp (s : State) : (s.settle).mp = s.mp := by
  simp [State.settle]
@[simp] theorem State.settle_draws (s : State) : (s.settle).draws = s.draws := by
  simp [State.settle]
@[simp] theorem State.settle_msi (s : State) : (s.settle).msi = s.msi := by
  simp [State.settle]
@[simp] theorem State.settle_pending (s : State) : (s.settle).pending = s.pending := by
  simp [State.settle]

/-! ### grant -/

@[simp] theorem State.grant_resetAsserted (s : State) (r : Request) : (s.grant r).resetAsserted = s.resetAsserted := by
  rcases r with k | ⟨k, c⟩ | _ | _ | _
  · rfl
  · cases c <;> rfl
  all_goals rfl
@[simp] theorem State.grant_tables (s : State) (r : Request) : (s.grant r).tables = s.tables := by
  rcases r with k | ⟨k, c⟩ | _ | _ | _
  · rfl
  · cases c <;> rfl
  all_goals rfl
@[simp] theorem State.grant_retention (s : State) (r : Request) : (s.grant r).retention = s.retention := by
  rcases r with k | ⟨k, c⟩ | _ | _ | _
  · rfl
  · cases c <;> rfl
  all_goals rfl
@[simp] theorem State.grant_faults (s : State) (r : Request) : (s.grant r).faults = s.faults := by
  rcases r with k | ⟨k, c⟩ | _ | _ | _
  · rfl
  · cases c <;> rfl
  all_goals rfl
@[simp] theorem State.grant_mp (s : State) (r : Request) : (s.grant r).mp = s.mp := by
  rcases r with k | ⟨k, c⟩ | _ | _ | _
  · rfl
  · cases c <;> rfl
  all_goals rfl
@[simp] theorem State.grant_draws (s : State) (r : Request) : (s.grant r).draws = s.draws := by
  rcases r with k | ⟨k, c⟩ | _ | _ | _
  · rfl
  · cases c <;> rfl
  all_goals rfl
@[simp] theorem State.grant_msi (s : State) (r : Request) : (s.grant r).msi = s.msi := by
  rcases r with k | ⟨k, c⟩ | _ | _ | _
  · rfl
  · cases c <;> rfl
  all_goals rfl
@[simp] theorem State.grant_pending (s : State) (r : Request) : (s.grant r).pending = s.pending := by
  rcases r with k | ⟨k, c⟩ | _ | _ | _
  · rfl
  · cases c <;> rfl
  all_goals rfl

/-! ### decide -/

@[simp] theorem State.decide_resetAsserted (s : State) : (s.decide).resetAsserted = s.resetAsserted := by
  unfold State.decide; repeat' split
  all_goals simp
@[simp] theorem State.decide_tables (s : State) : (s.decide).tables = s.tables := by
  unfold State.decide; repeat' split
  all_goals simp
@[simp] theorem State.decide_retention (s : State) : (s.decide).retention = s.retention := by
  unfold State.decide; repeat' split
  all_goals simp
@[simp] theorem State.decide_faults (s : State) : (s.decide).faults = s.faults := by
  unfold State.decide; repeat' split
  all_goals simp
@[simp] theorem State.decide_mp (s : State) : (s.decide).mp = s.mp := by
  unfold State.decide; repeat' split
  all_goals simp
@[simp] theorem State.decide_draws (s : State) : (s.decide).draws = s.draws := by
  unfold State.decide; repeat' split
  all_goals simp
@[simp] theorem State.decide_msi (s : State) : (s.decide).msi = s.msi := by
  unfold State.decide; repeat' split
  all_goals simp
@[simp] theorem State.decide_pending (s : State) : (s.decide).pending = s.pending := by
  unfold State.decide; repeat' split
  all_goals simp

/-! ### conclude -/

@[simp] theorem State.conclude_resetAsserted (s : State) : (s.conclude).resetAsserted = s.resetAsserted := by
  simp [State.conclude]
@[simp] theorem State.conclude_tables (s : State) : (s.conclude).tables = s.tables := by
  simp [State.conclude]
@[simp] theorem State.conclude_mp (s : State) : (s.conclude).mp = s.mp := by
  simp [State.conclude]
@[simp] theorem State.conclude_draws (s : State) : (s.conclude).draws = s.draws := by
  simp [State.conclude]
@[simp] theorem State.conclude_msi (s : State) : (s.conclude).msi = s.msi := by
  simp [State.conclude]
@[simp] theorem State.conclude_pending (s : State) : (s.conclude).pending = s.pending := by
  simp [State.conclude]

/-! ### spWakeCheck -/

@[simp] theorem State.spWakeCheck_resetAsserted (s : State) (d : Descriptor) : (s.spWakeCheck d).resetAsserted = s.resetAsserted := rfl
@[simp] theorem State.spWakeCheck_tables (s : State) (d : Descriptor) : (s.spWakeCheck d).tables = s.tables := rfl
@[simp] theorem State.spWakeCheck_queue (s : State) (d : Descriptor) : (s.spWakeCheck d).queue = s.queue := rfl
@[simp] theorem State.spWakeCheck_ap (s : State) (d : Descriptor) : (s.spWakeCheck d).ap = s.ap := rfl
@[simp] theorem State.spWakeCheck_channel (s : State) (d : Descriptor) : (s.spWakeCheck d).channel = s.channel := rfl
@[simp] theorem State.spWakeCheck_slices (s : State) (d : Descriptor) : (s.spWakeCheck d).slices = s.slices := rfl
@[simp] theorem State.spWakeCheck_retention (s : State) (d : Descriptor) : (s.spWakeCheck d).retention = s.retention := rfl
@[simp] theorem State.spWakeCheck_faults (s : State) (d : Descriptor) : (s.spWakeCheck d).faults = s.faults := rfl
@[simp] theorem State.spWakeCheck_mp (s : State) (d : Descriptor) : (s.spWakeCheck d).mp = s.mp := rfl
@[simp] theorem State.spWakeCheck_draws (s : State) (d : Descriptor) : (s.spWakeCheck d).draws = s.draws := rfl
@[simp] theorem State.spWakeCheck_msi (s : State) (d : Descriptor) : (s.spWakeCheck d).msi = s.msi := rfl
@[simp] theorem State.spWakeCheck_pending (s : State) (d : Descriptor) : (s.spWakeCheck d).pending = s.pending := rfl

/-! ### offerPosted -/

@[simp] theorem State.offerPosted_resetAsserted (s : State) (d : Descriptor) (t : Target) : (s.offerPosted d t).resetAsserted = s.resetAsserted := by
  unfold State.offerPosted; split <;> simp
@[simp] theorem State.offerPosted_tables (s : State) (d : Descriptor) (t : Target) : (s.offerPosted d t).tables = s.tables := by
  unfold State.offerPosted; split <;> simp
@[simp] theorem State.offerPosted_ap (s : State) (d : Descriptor) (t : Target) : (s.offerPosted d t).ap = s.ap := by
  unfold State.offerPosted; split <;> simp
@[simp] theorem State.offerPosted_channel (s : State) (d : Descriptor) (t : Target) : (s.offerPosted d t).channel = s.channel := by
  unfold State.offerPosted; split <;> simp
@[simp] theorem State.offerPosted_slices (s : State) (d : Descriptor) (t : Target) : (s.offerPosted d t).slices = s.slices := by
  unfold State.offerPosted; split <;> simp
@[simp] theorem State.offerPosted_retention (s : State) (d : Descriptor) (t : Target) : (s.offerPosted d t).retention = s.retention := by
  unfold State.offerPosted; split <;> simp
@[simp] theorem State.offerPosted_faults (s : State) (d : Descriptor) (t : Target) : (s.offerPosted d t).faults = s.faults := by
  unfold State.offerPosted; split <;> simp
@[simp] theorem State.offerPosted_mp (s : State) (d : Descriptor) (t : Target) : (s.offerPosted d t).mp = s.mp := by
  unfold State.offerPosted; split <;> simp
@[simp] theorem State.offerPosted_draws (s : State) (d : Descriptor) (t : Target) : (s.offerPosted d t).draws = s.draws := by
  unfold State.offerPosted; split <;> simp
@[simp] theorem State.offerPosted_msi (s : State) (d : Descriptor) (t : Target) : (s.offerPosted d t).msi = s.msi := by
  unfold State.offerPosted; split <;> simp
@[simp] theorem State.offerPosted_pending (s : State) (d : Descriptor) (t : Target) : (s.offerPosted d t).pending = s.pending := by
  unfold State.offerPosted; split <;> simp

/-! ### placeSp -/

@[simp] theorem State.placeSp_resetAsserted (s : State) (d : Descriptor) : (s.placeSp d).resetAsserted = s.resetAsserted := by
  unfold State.placeSp; repeat' split
  all_goals simp
@[simp] theorem State.placeSp_tables (s : State) (d : Descriptor) : (s.placeSp d).tables = s.tables := by
  unfold State.placeSp; repeat' split
  all_goals simp
@[simp] theorem State.placeSp_ap (s : State) (d : Descriptor) : (s.placeSp d).ap = s.ap := by
  unfold State.placeSp; repeat' split
  all_goals simp
@[simp] theorem State.placeSp_channel (s : State) (d : Descriptor) : (s.placeSp d).channel = s.channel := by
  unfold State.placeSp; repeat' split
  all_goals simp
@[simp] theorem State.placeSp_slices (s : State) (d : Descriptor) : (s.placeSp d).slices = s.slices := by
  unfold State.placeSp; repeat' split
  all_goals simp
@[simp] theorem State.placeSp_retention (s : State) (d : Descriptor) : (s.placeSp d).retention = s.retention := by
  unfold State.placeSp; repeat' split
  all_goals simp
@[simp] theorem State.placeSp_faults (s : State) (d : Descriptor) : (s.placeSp d).faults = s.faults := by
  unfold State.placeSp; repeat' split
  all_goals simp
@[simp] theorem State.placeSp_mp (s : State) (d : Descriptor) : (s.placeSp d).mp = s.mp := by
  unfold State.placeSp; repeat' split
  all_goals simp
@[simp] theorem State.placeSp_draws (s : State) (d : Descriptor) : (s.placeSp d).draws = s.draws := by
  unfold State.placeSp; repeat' split
  all_goals simp
@[simp] theorem State.placeSp_msi (s : State) (d : Descriptor) : (s.placeSp d).msi = s.msi := by
  unfold State.placeSp; repeat' split
  all_goals simp
@[simp] theorem State.placeSp_pending (s : State) (d : Descriptor) : (s.placeSp d).pending = s.pending := by
  unfold State.placeSp; repeat' split
  all_goals simp

/-! ### handOnSp -/

@[simp] theorem State.handOnSp_resetAsserted (s : State) (d : Descriptor) : (s.handOnSp d).resetAsserted = s.resetAsserted := by
  unfold State.handOnSp; split <;> simp
@[simp] theorem State.handOnSp_tables (s : State) (d : Descriptor) : (s.handOnSp d).tables = s.tables := by
  unfold State.handOnSp; split <;> simp
@[simp] theorem State.handOnSp_ap (s : State) (d : Descriptor) : (s.handOnSp d).ap = s.ap := by
  unfold State.handOnSp; split <;> simp
@[simp] theorem State.handOnSp_channel (s : State) (d : Descriptor) : (s.handOnSp d).channel = s.channel := by
  unfold State.handOnSp; split <;> simp
@[simp] theorem State.handOnSp_slices (s : State) (d : Descriptor) : (s.handOnSp d).slices = s.slices := by
  unfold State.handOnSp; split <;> simp
@[simp] theorem State.handOnSp_faults (s : State) (d : Descriptor) : (s.handOnSp d).faults = s.faults := by
  unfold State.handOnSp; split <;> simp
@[simp] theorem State.handOnSp_mp (s : State) (d : Descriptor) : (s.handOnSp d).mp = s.mp := by
  unfold State.handOnSp; split <;> simp
@[simp] theorem State.handOnSp_draws (s : State) (d : Descriptor) : (s.handOnSp d).draws = s.draws := by
  unfold State.handOnSp; split <;> simp
@[simp] theorem State.handOnSp_msi (s : State) (d : Descriptor) : (s.handOnSp d).msi = s.msi := by
  unfold State.handOnSp; split <;> simp
@[simp] theorem State.handOnSp_pending (s : State) (d : Descriptor) : (s.handOnSp d).pending = s.pending := by
  unfold State.handOnSp; split <;> simp

/-! ### presentSp -/

@[simp] theorem State.presentSp_resetAsserted (s : State) (t : SpTerminals) : (s.presentSp t).resetAsserted = s.resetAsserted := by
  unfold State.presentSp; dsimp only; repeat' split
  all_goals simp
@[simp] theorem State.presentSp_ap (s : State) (t : SpTerminals) : (s.presentSp t).ap = s.ap := by
  unfold State.presentSp; dsimp only; repeat' split
  all_goals simp
@[simp] theorem State.presentSp_channel (s : State) (t : SpTerminals) : (s.presentSp t).channel = s.channel := by
  unfold State.presentSp; dsimp only; repeat' split
  all_goals simp
@[simp] theorem State.presentSp_slices (s : State) (t : SpTerminals) : (s.presentSp t).slices = s.slices := by
  unfold State.presentSp; dsimp only; repeat' split
  all_goals simp
@[simp] theorem State.presentSp_mp (s : State) (t : SpTerminals) : (s.presentSp t).mp = s.mp := by
  unfold State.presentSp; dsimp only; repeat' split
  all_goals simp
@[simp] theorem State.presentSp_draws (s : State) (t : SpTerminals) : (s.presentSp t).draws = s.draws := by
  unfold State.presentSp; dsimp only; repeat' split
  all_goals simp
@[simp] theorem State.presentSp_msi (s : State) (t : SpTerminals) : (s.presentSp t).msi = s.msi := by
  unfold State.presentSp; dsimp only; repeat' split
  all_goals simp
@[simp] theorem State.presentSp_pending (s : State) (t : SpTerminals) : (s.presentSp t).pending = s.pending := by
  unfold State.presentSp; dsimp only; repeat' split
  all_goals simp

/-! ### completeSp -/

@[simp] theorem State.completeSp_resetAsserted (s : State) (w : WordTxn) (x : Bool) (d : Descriptor) (t : SpTerminals) : (s.completeSp w x d t).resetAsserted = s.resetAsserted := by
  unfold State.completeSp; dsimp only; repeat' split
  all_goals simp
@[simp] theorem State.completeSp_ap (s : State) (w : WordTxn) (x : Bool) (d : Descriptor) (t : SpTerminals) : (s.completeSp w x d t).ap = s.ap := by
  unfold State.completeSp; dsimp only; repeat' split
  all_goals simp
@[simp] theorem State.completeSp_channel (s : State) (w : WordTxn) (x : Bool) (d : Descriptor) (t : SpTerminals) : (s.completeSp w x d t).channel = s.channel := by
  unfold State.completeSp; dsimp only; repeat' split
  all_goals simp
@[simp] theorem State.completeSp_slices (s : State) (w : WordTxn) (x : Bool) (d : Descriptor) (t : SpTerminals) : (s.completeSp w x d t).slices = s.slices := by
  unfold State.completeSp; dsimp only; repeat' split
  all_goals simp
@[simp] theorem State.completeSp_mp (s : State) (w : WordTxn) (x : Bool) (d : Descriptor) (t : SpTerminals) : (s.completeSp w x d t).mp = s.mp := by
  unfold State.completeSp; dsimp only; repeat' split
  all_goals simp
@[simp] theorem State.completeSp_draws (s : State) (w : WordTxn) (x : Bool) (d : Descriptor) (t : SpTerminals) : (s.completeSp w x d t).draws = s.draws := by
  unfold State.completeSp; dsimp only; repeat' split
  all_goals simp
@[simp] theorem State.completeSp_msi (s : State) (w : WordTxn) (x : Bool) (d : Descriptor) (t : SpTerminals) : (s.completeSp w x d t).msi = s.msi := by
  unfold State.completeSp; dsimp only; repeat' split
  all_goals simp
@[simp] theorem State.completeSp_pending (s : State) (w : WordTxn) (x : Bool) (d : Descriptor) (t : SpTerminals) : (s.completeSp w x d t).pending = s.pending := by
  unfold State.completeSp; dsimp only; repeat' split
  all_goals simp

/-! ### apWakeCheck -/

@[simp] theorem State.apWakeCheck_resetAsserted (s : State) (d : Descriptor) : (s.apWakeCheck d).resetAsserted = s.resetAsserted := rfl
@[simp] theorem State.apWakeCheck_tables (s : State) (d : Descriptor) : (s.apWakeCheck d).tables = s.tables := rfl
@[simp] theorem State.apWakeCheck_queue (s : State) (d : Descriptor) : (s.apWakeCheck d).queue = s.queue := rfl
@[simp] theorem State.apWakeCheck_sp (s : State) (d : Descriptor) : (s.apWakeCheck d).sp = s.sp := rfl
@[simp] theorem State.apWakeCheck_channel (s : State) (d : Descriptor) : (s.apWakeCheck d).channel = s.channel := rfl
@[simp] theorem State.apWakeCheck_slices (s : State) (d : Descriptor) : (s.apWakeCheck d).slices = s.slices := rfl
@[simp] theorem State.apWakeCheck_retention (s : State) (d : Descriptor) : (s.apWakeCheck d).retention = s.retention := rfl
@[simp] theorem State.apWakeCheck_faults (s : State) (d : Descriptor) : (s.apWakeCheck d).faults = s.faults := rfl
@[simp] theorem State.apWakeCheck_mp (s : State) (d : Descriptor) : (s.apWakeCheck d).mp = s.mp := rfl
@[simp] theorem State.apWakeCheck_draws (s : State) (d : Descriptor) : (s.apWakeCheck d).draws = s.draws := rfl
@[simp] theorem State.apWakeCheck_msi (s : State) (d : Descriptor) : (s.apWakeCheck d).msi = s.msi := rfl
@[simp] theorem State.apWakeCheck_pending (s : State) (d : Descriptor) : (s.apWakeCheck d).pending = s.pending := rfl

/-! ### takeBeat -/

@[simp] theorem State.takeBeat_resetAsserted (s : State) (b : BusWord) : (s.takeBeat b).resetAsserted = s.resetAsserted := by
  unfold State.takeBeat; split <;> simp
@[simp] theorem State.takeBeat_tables (s : State) (b : BusWord) : (s.takeBeat b).tables = s.tables := by
  unfold State.takeBeat; split <;> simp
@[simp] theorem State.takeBeat_queue (s : State) (b : BusWord) : (s.takeBeat b).queue = s.queue := by
  unfold State.takeBeat; split <;> simp
@[simp] theorem State.takeBeat_sp (s : State) (b : BusWord) : (s.takeBeat b).sp = s.sp := by
  unfold State.takeBeat; split <;> simp
@[simp] theorem State.takeBeat_channel (s : State) (b : BusWord) : (s.takeBeat b).channel = s.channel := by
  unfold State.takeBeat; split <;> simp
@[simp] theorem State.takeBeat_slices (s : State) (b : BusWord) : (s.takeBeat b).slices = s.slices := by
  unfold State.takeBeat; split <;> simp
@[simp] theorem State.takeBeat_retention (s : State) (b : BusWord) : (s.takeBeat b).retention = s.retention := by
  unfold State.takeBeat; split <;> simp
@[simp] theorem State.takeBeat_faults (s : State) (b : BusWord) : (s.takeBeat b).faults = s.faults := by
  unfold State.takeBeat; split <;> simp
@[simp] theorem State.takeBeat_mp (s : State) (b : BusWord) : (s.takeBeat b).mp = s.mp := by
  unfold State.takeBeat; split <;> simp
@[simp] theorem State.takeBeat_draws (s : State) (b : BusWord) : (s.takeBeat b).draws = s.draws := by
  unfold State.takeBeat; split <;> simp
@[simp] theorem State.takeBeat_msi (s : State) (b : BusWord) : (s.takeBeat b).msi = s.msi := by
  unfold State.takeBeat; split <;> simp
@[simp] theorem State.takeBeat_pending (s : State) (b : BusWord) : (s.takeBeat b).pending = s.pending := by
  unfold State.takeBeat; split <;> simp

/-! ### presentAp -/

@[simp] theorem State.presentAp_resetAsserted (s : State) (t : ApTerminals) : (s.presentAp t).resetAsserted = s.resetAsserted := by
  unfold State.presentAp; dsimp only; repeat' split
  all_goals simp
@[simp] theorem State.presentAp_tables (s : State) (t : ApTerminals) : (s.presentAp t).tables = s.tables := by
  unfold State.presentAp; dsimp only; repeat' split
  all_goals simp
@[simp] theorem State.presentAp_queue (s : State) (t : ApTerminals) : (s.presentAp t).queue = s.queue := by
  unfold State.presentAp; dsimp only; repeat' split
  all_goals simp
@[simp] theorem State.presentAp_sp (s : State) (t : ApTerminals) : (s.presentAp t).sp = s.sp := by
  unfold State.presentAp; dsimp only; repeat' split
  all_goals simp
@[simp] theorem State.presentAp_channel (s : State) (t : ApTerminals) : (s.presentAp t).channel = s.channel := by
  unfold State.presentAp; dsimp only; repeat' split
  all_goals simp
@[simp] theorem State.presentAp_slices (s : State) (t : ApTerminals) : (s.presentAp t).slices = s.slices := by
  unfold State.presentAp; dsimp only; repeat' split
  all_goals simp
@[simp] theorem State.presentAp_mp (s : State) (t : ApTerminals) : (s.presentAp t).mp = s.mp := by
  unfold State.presentAp; dsimp only; repeat' split
  all_goals simp
@[simp] theorem State.presentAp_draws (s : State) (t : ApTerminals) : (s.presentAp t).draws = s.draws := by
  unfold State.presentAp; dsimp only; repeat' split
  all_goals simp
@[simp] theorem State.presentAp_msi (s : State) (t : ApTerminals) : (s.presentAp t).msi = s.msi := by
  unfold State.presentAp; dsimp only; repeat' split
  all_goals simp
@[simp] theorem State.presentAp_pending (s : State) (t : ApTerminals) : (s.presentAp t).pending = s.pending := by
  unfold State.presentAp; dsimp only; repeat' split
  all_goals simp

/-! ### releaseSp -/

@[simp] theorem State.releaseSp_resetAsserted (s : State) : (s.releaseSp).resetAsserted = s.resetAsserted := by
  unfold State.releaseSp; repeat' split
  all_goals simp
@[simp] theorem State.releaseSp_tables (s : State) : (s.releaseSp).tables = s.tables := by
  unfold State.releaseSp; repeat' split
  all_goals simp
@[simp] theorem State.releaseSp_ap (s : State) : (s.releaseSp).ap = s.ap := by
  unfold State.releaseSp; repeat' split
  all_goals simp
@[simp] theorem State.releaseSp_channel (s : State) : (s.releaseSp).channel = s.channel := by
  unfold State.releaseSp; repeat' split
  all_goals simp
@[simp] theorem State.releaseSp_slices (s : State) : (s.releaseSp).slices = s.slices := by
  unfold State.releaseSp; repeat' split
  all_goals simp
@[simp] theorem State.releaseSp_faults (s : State) : (s.releaseSp).faults = s.faults := by
  unfold State.releaseSp; repeat' split
  all_goals simp
@[simp] theorem State.releaseSp_mp (s : State) : (s.releaseSp).mp = s.mp := by
  unfold State.releaseSp; repeat' split
  all_goals simp
@[simp] theorem State.releaseSp_draws (s : State) : (s.releaseSp).draws = s.draws := by
  unfold State.releaseSp; repeat' split
  all_goals simp
@[simp] theorem State.releaseSp_msi (s : State) : (s.releaseSp).msi = s.msi := by
  unfold State.releaseSp; repeat' split
  all_goals simp
@[simp] theorem State.releaseSp_pending (s : State) : (s.releaseSp).pending = s.pending := by
  unfold State.releaseSp; repeat' split
  all_goals simp

/-! ### releaseAp -/

@[simp] theorem State.releaseAp_resetAsserted (s : State) : (s.releaseAp).resetAsserted = s.resetAsserted := by
  unfold State.releaseAp; dsimp only; repeat' split
  all_goals simp
@[simp] theorem State.releaseAp_tables (s : State) : (s.releaseAp).tables = s.tables := by
  unfold State.releaseAp; dsimp only; repeat' split
  all_goals simp
@[simp] theorem State.releaseAp_queue (s : State) : (s.releaseAp).queue = s.queue := by
  unfold State.releaseAp; dsimp only; repeat' split
  all_goals simp
@[simp] theorem State.releaseAp_sp (s : State) : (s.releaseAp).sp = s.sp := by
  unfold State.releaseAp; dsimp only; repeat' split
  all_goals simp
@[simp] theorem State.releaseAp_channel (s : State) : (s.releaseAp).channel = s.channel := by
  unfold State.releaseAp; dsimp only; repeat' split
  all_goals simp
@[simp] theorem State.releaseAp_slices (s : State) : (s.releaseAp).slices = s.slices := by
  unfold State.releaseAp; dsimp only; repeat' split
  all_goals simp
@[simp] theorem State.releaseAp_faults (s : State) : (s.releaseAp).faults = s.faults := by
  unfold State.releaseAp; dsimp only; repeat' split
  all_goals simp
@[simp] theorem State.releaseAp_mp (s : State) : (s.releaseAp).mp = s.mp := by
  unfold State.releaseAp; dsimp only; repeat' split
  all_goals simp
@[simp] theorem State.releaseAp_draws (s : State) : (s.releaseAp).draws = s.draws := by
  unfold State.releaseAp; dsimp only; repeat' split
  all_goals simp
@[simp] theorem State.releaseAp_msi (s : State) : (s.releaseAp).msi = s.msi := by
  unfold State.releaseAp; dsimp only; repeat' split
  all_goals simp
@[simp] theorem State.releaseAp_pending (s : State) : (s.releaseAp).pending = s.pending := by
  unfold State.releaseAp; dsimp only; repeat' split
  all_goals simp

/-! ### removeHead -/

@[simp] theorem State.removeHead_resetAsserted (s : State) (e : Entry) (q : List Entry) (b : Bool) : (s.removeHead e q b).resetAsserted = s.resetAsserted := by
  unfold State.removeHead; dsimp only; split <;> simp
@[simp] theorem State.removeHead_tables (s : State) (e : Entry) (q : List Entry) (b : Bool) : (s.removeHead e q b).tables = s.tables := by
  unfold State.removeHead; dsimp only; split <;> simp
@[simp] theorem State.removeHead_channel (s : State) (e : Entry) (q : List Entry) (b : Bool) : (s.removeHead e q b).channel = s.channel := by
  unfold State.removeHead; dsimp only; split <;> simp
@[simp] theorem State.removeHead_slices (s : State) (e : Entry) (q : List Entry) (b : Bool) : (s.removeHead e q b).slices = s.slices := by
  unfold State.removeHead; dsimp only; split <;> simp
@[simp] theorem State.removeHead_mp (s : State) (e : Entry) (q : List Entry) (b : Bool) : (s.removeHead e q b).mp = s.mp := by
  unfold State.removeHead; dsimp only; split <;> simp
@[simp] theorem State.removeHead_draws (s : State) (e : Entry) (q : List Entry) (b : Bool) : (s.removeHead e q b).draws = s.draws := by
  unfold State.removeHead; dsimp only; split <;> simp
@[simp] theorem State.removeHead_msi (s : State) (e : Entry) (q : List Entry) (b : Bool) : (s.removeHead e q b).msi = s.msi := by
  unfold State.removeHead; dsimp only; split <;> simp
@[simp] theorem State.removeHead_pending (s : State) (e : Entry) (q : List Entry) (b : Bool) : (s.removeHead e q b).pending = s.pending := by
  unfold State.removeHead; dsimp only; split <;> simp

/-! ### endAccess -/

@[simp] theorem State.endAccess_resetAsserted (s : State) : (s.endAccess).resetAsserted = s.resetAsserted := by
  unfold State.endAccess; dsimp only; repeat' split
  all_goals simp
@[simp] theorem State.endAccess_tables (s : State) : (s.endAccess).tables = s.tables := by
  unfold State.endAccess; dsimp only; repeat' split
  all_goals simp
@[simp] theorem State.endAccess_retention (s : State) : (s.endAccess).retention = s.retention := by
  unfold State.endAccess; dsimp only; repeat' split
  all_goals simp
@[simp] theorem State.endAccess_mp (s : State) : (s.endAccess).mp = s.mp := by
  unfold State.endAccess; dsimp only; repeat' split
  all_goals simp
@[simp] theorem State.endAccess_draws (s : State) : (s.endAccess).draws = s.draws := by
  unfold State.endAccess; dsimp only; repeat' split
  all_goals simp
@[simp] theorem State.endAccess_msi (s : State) : (s.endAccess).msi = s.msi := by
  unfold State.endAccess; dsimp only; repeat' split
  all_goals simp
@[simp] theorem State.endAccess_pending (s : State) : (s.endAccess).pending = s.pending := by
  unfold State.endAccess; dsimp only; repeat' split
  all_goals simp

/-! ### withdrawAp -/

@[simp] theorem State.withdrawAp_resetAsserted (s : State) : (s.withdrawAp).resetAsserted = s.resetAsserted := by
  unfold State.withdrawAp; dsimp only; split <;> simp
@[simp] theorem State.withdrawAp_tables (s : State) : (s.withdrawAp).tables = s.tables := by
  unfold State.withdrawAp; dsimp only; split <;> simp
@[simp] theorem State.withdrawAp_queue (s : State) : (s.withdrawAp).queue = s.queue := by
  unfold State.withdrawAp; dsimp only; split <;> simp
@[simp] theorem State.withdrawAp_sp (s : State) : (s.withdrawAp).sp = s.sp := by
  unfold State.withdrawAp; dsimp only; split <;> simp
@[simp] theorem State.withdrawAp_slices (s : State) : (s.withdrawAp).slices = s.slices := by
  unfold State.withdrawAp; dsimp only; split <;> simp
@[simp] theorem State.withdrawAp_retention (s : State) : (s.withdrawAp).retention = s.retention := by
  unfold State.withdrawAp; dsimp only; split <;> simp
@[simp] theorem State.withdrawAp_mp (s : State) : (s.withdrawAp).mp = s.mp := by
  unfold State.withdrawAp; dsimp only; split <;> simp
@[simp] theorem State.withdrawAp_draws (s : State) : (s.withdrawAp).draws = s.draws := by
  unfold State.withdrawAp; dsimp only; split <;> simp
@[simp] theorem State.withdrawAp_msi (s : State) : (s.withdrawAp).msi = s.msi := by
  unfold State.withdrawAp; dsimp only; split <;> simp
@[simp] theorem State.withdrawAp_pending (s : State) : (s.withdrawAp).pending = s.pending := by
  unfold State.withdrawAp; dsimp only; split <;> simp

/-! ### releaseAxReq -/

@[simp] theorem State.releaseAxReq_resetAsserted (s : State) : (s.releaseAxReq).resetAsserted = s.resetAsserted := by
  unfold State.releaseAxReq; dsimp only; repeat' split
  all_goals simp
@[simp] theorem State.releaseAxReq_tables (s : State) : (s.releaseAxReq).tables = s.tables := by
  unfold State.releaseAxReq; dsimp only; repeat' split
  all_goals simp
@[simp] theorem State.releaseAxReq_queue (s : State) : (s.releaseAxReq).queue = s.queue := by
  unfold State.releaseAxReq; dsimp only; repeat' split
  all_goals simp
@[simp] theorem State.releaseAxReq_sp (s : State) : (s.releaseAxReq).sp = s.sp := by
  unfold State.releaseAxReq; dsimp only; repeat' split
  all_goals simp
@[simp] theorem State.releaseAxReq_slices (s : State) : (s.releaseAxReq).slices = s.slices := by
  unfold State.releaseAxReq; dsimp only; repeat' split
  all_goals simp
@[simp] theorem State.releaseAxReq_retention (s : State) : (s.releaseAxReq).retention = s.retention := by
  unfold State.releaseAxReq; dsimp only; repeat' split
  all_goals simp
@[simp] theorem State.releaseAxReq_mp (s : State) : (s.releaseAxReq).mp = s.mp := by
  unfold State.releaseAxReq; dsimp only; repeat' split
  all_goals simp
@[simp] theorem State.releaseAxReq_draws (s : State) : (s.releaseAxReq).draws = s.draws := by
  unfold State.releaseAxReq; dsimp only; repeat' split
  all_goals simp
@[simp] theorem State.releaseAxReq_msi (s : State) : (s.releaseAxReq).msi = s.msi := by
  unfold State.releaseAxReq; dsimp only; repeat' split
  all_goals simp
@[simp] theorem State.releaseAxReq_pending (s : State) : (s.releaseAxReq).pending = s.pending := by
  unfold State.releaseAxReq; dsimp only; repeat' split
  all_goals simp

/-! ### wordEvent -/

@[simp] theorem State.wordEvent_resetAsserted (s : State) (f : WordTxn → Option WordTxn) : (s.wordEvent f).resetAsserted = s.resetAsserted := by
  unfold State.wordEvent; repeat' split
  all_goals simp
@[simp] theorem State.wordEvent_tables (s : State) (f : WordTxn → Option WordTxn) : (s.wordEvent f).tables = s.tables := by
  unfold State.wordEvent; repeat' split
  all_goals simp
@[simp] theorem State.wordEvent_queue (s : State) (f : WordTxn → Option WordTxn) : (s.wordEvent f).queue = s.queue := by
  unfold State.wordEvent; repeat' split
  all_goals simp
@[simp] theorem State.wordEvent_sp (s : State) (f : WordTxn → Option WordTxn) : (s.wordEvent f).sp = s.sp := by
  unfold State.wordEvent; repeat' split
  all_goals simp
@[simp] theorem State.wordEvent_ap (s : State) (f : WordTxn → Option WordTxn) : (s.wordEvent f).ap = s.ap := by
  unfold State.wordEvent; repeat' split
  all_goals simp
@[simp] theorem State.wordEvent_slices (s : State) (f : WordTxn → Option WordTxn) : (s.wordEvent f).slices = s.slices := by
  unfold State.wordEvent; repeat' split
  all_goals simp
@[simp] theorem State.wordEvent_retention (s : State) (f : WordTxn → Option WordTxn) : (s.wordEvent f).retention = s.retention := by
  unfold State.wordEvent; repeat' split
  all_goals simp
@[simp] theorem State.wordEvent_faults (s : State) (f : WordTxn → Option WordTxn) : (s.wordEvent f).faults = s.faults := by
  unfold State.wordEvent; repeat' split
  all_goals simp
@[simp] theorem State.wordEvent_mp (s : State) (f : WordTxn → Option WordTxn) : (s.wordEvent f).mp = s.mp := by
  unfold State.wordEvent; repeat' split
  all_goals simp
@[simp] theorem State.wordEvent_draws (s : State) (f : WordTxn → Option WordTxn) : (s.wordEvent f).draws = s.draws := by
  unfold State.wordEvent; repeat' split
  all_goals simp
@[simp] theorem State.wordEvent_msi (s : State) (f : WordTxn → Option WordTxn) : (s.wordEvent f).msi = s.msi := by
  unfold State.wordEvent; repeat' split
  all_goals simp
@[simp] theorem State.wordEvent_pending (s : State) (f : WordTxn → Option WordTxn) : (s.wordEvent f).pending = s.pending := by
  unfold State.wordEvent; repeat' split
  all_goals simp

/-! ### completeAp -/

@[simp] theorem State.completeAp_resetAsserted (s : State) (w : WordTxn) : (s.completeAp w).resetAsserted = s.resetAsserted := by
  unfold State.completeAp; dsimp only; repeat' split
  all_goals simp
@[simp] theorem State.completeAp_tables (s : State) (w : WordTxn) : (s.completeAp w).tables = s.tables := by
  unfold State.completeAp; dsimp only; repeat' split
  all_goals simp
@[simp] theorem State.completeAp_queue (s : State) (w : WordTxn) : (s.completeAp w).queue = s.queue := by
  unfold State.completeAp; dsimp only; repeat' split
  all_goals simp
@[simp] theorem State.completeAp_sp (s : State) (w : WordTxn) : (s.completeAp w).sp = s.sp := by
  unfold State.completeAp; dsimp only; repeat' split
  all_goals simp
@[simp] theorem State.completeAp_channel (s : State) (w : WordTxn) : (s.completeAp w).channel = s.channel := by
  unfold State.completeAp; dsimp only; repeat' split
  all_goals simp
@[simp] theorem State.completeAp_slices (s : State) (w : WordTxn) : (s.completeAp w).slices = s.slices := by
  unfold State.completeAp; dsimp only; repeat' split
  all_goals simp
@[simp] theorem State.completeAp_retention (s : State) (w : WordTxn) : (s.completeAp w).retention = s.retention := by
  unfold State.completeAp; dsimp only; repeat' split
  all_goals simp
@[simp] theorem State.completeAp_mp (s : State) (w : WordTxn) : (s.completeAp w).mp = s.mp := by
  unfold State.completeAp; dsimp only; repeat' split
  all_goals simp
@[simp] theorem State.completeAp_draws (s : State) (w : WordTxn) : (s.completeAp w).draws = s.draws := by
  unfold State.completeAp; dsimp only; repeat' split
  all_goals simp
@[simp] theorem State.completeAp_msi (s : State) (w : WordTxn) : (s.completeAp w).msi = s.msi := by
  unfold State.completeAp; dsimp only; repeat' split
  all_goals simp
@[simp] theorem State.completeAp_pending (s : State) (w : WordTxn) : (s.completeAp w).pending = s.pending := by
  unfold State.completeAp; dsimp only; repeat' split
  all_goals simp

/-! ### The commit point -/

/-- When the command with these bytes reaches the commit point of frame `f`. -/
theorem State.committing_iff (s : State) (bytes : List Byte) (f : Frame) :
    s.committing bytes = some f ↔
      s.resetAsserted = false ∧ s.mp.frame = some f ∧ f.result = none ∧ f.received = bytes := by
  unfold State.committing
  cases s.resetAsserted <;> simp [Option.filter_eq_some_iff]

/-- At the commit point of frame `f` the reply's part is taken, with the result and data in the frame and the flag cleared. -/
theorem State.commit_of_frame (s : State) (f : Frame) (bytes : List Byte) (r : Reply) (h0 : s.resetAsserted = false)
    (h1 : s.mp.frame = some f) (h2 : f.result = none) (h3 : f.received = bytes) :
    s.commit bytes r = r.state.setMp { s.mp with frame := some (f.perform r.result r.data), errorFlag := false } := by
  unfold State.commit
  rw [(s.committing_iff bytes f).2 ⟨h0, h1, h2, h3⟩]

/-- Without such a frame nothing happens. -/
theorem State.commit_of_not_committing (s : State) (bytes : List Byte) (r : Reply) (h : s.committing bytes = none) :
    s.commit bytes r = s := by
  unfold State.commit
  rw [h]

/-! ### The queue -/

/-- A posted write that is taken keeps the queue within its capacity (R32). -/
theorem offer_length_le (q q' : List Entry) (n : Entry) (h : offer q n = some q') (hq : q.length ≤ Config.queueCapacity) :
    q'.length ≤ Config.queueCapacity := by
  unfold offer at h
  dsimp only at h
  split at h
  · split at h
    · rename_i e he hm
      have hne : q ≠ [] := by
        intro h0
        simp [h0] at he
      have : 0 < q.length := List.length_pos_of_ne_nil hne
      injection h with h
      subst h
      simp
      omega
    · split at h
      · injection h with h
        subst h
        simp
        omega
      · cases h
  · split at h
    · injection h with h
      subst h
      simp
      omega
    · cases h

/-- Marking the head changes no length (R45). -/
@[simp] theorem markHead_length (q : List Entry) : (markHead q).length = q.length := by
  cases q <;> rfl

/-! ### The fault log -/

/-- The log never holds more than its capacity (R161). -/
theorem FaultUnit.take_log_length (f : FaultUnit) (o : Occurrence) (h : f.log.length ≤ Config.logCapacity) :
    (f.take o).log.length ≤ Config.logCapacity := by
  unfold FaultUnit.take
  dsimp only
  split
  · simp
    omega
  · exact h

/-- Every occurrence advances the serial counter by one (R162). -/
@[simp] theorem FaultUnit.take_serial (f : FaultUnit) (o : Occurrence) : (f.take o).serial = f.serial + 1 := by
  unfold FaultUnit.take
  dsimp only
  split <;> rfl

/-- No occurrence changes an enable (R162, R170). -/
@[simp] theorem FaultUnit.take_enables (f : FaultUnit) (o : Occurrence) : (f.take o).enables = f.enables := by
  unfold FaultUnit.take
  dsimp only
  split <;> rfl

/-! ### The decision -/

/-- A BUSY channel is left as it is (R110, R112). -/
theorem State.decide_of_busy (s : State) (x : Txn) (h : s.channel.txn = some x) : s.decide = s := by
  unfold State.decide
  rw [h]

/-- A FREE channel with no request standing stays FREE (R110). -/
theorem State.decide_of_none (s : State) (h : s.channel.txn = none) (hc : s.choose = none) : s.decide = s := by
  unfold State.decide
  rw [h, hc]

/-- A FREE channel is handed to the request chosen (R110, R112). -/
theorem State.decide_of_choose (s : State) (r : Request) (h : s.channel.txn = none) (hc : s.choose = some r) :
    s.decide = s.grant r := by
  unfold State.decide
  rw [h, hc]

/-- Every grant makes the channel BUSY (R112). -/
theorem State.grant_busy (s : State) (r : Request) : (s.grant r).channel.txn.isSome = true := by
  rcases r with k | ⟨k, c⟩ | _ | _ | _
  · rfl
  · cases c <;> rfl
  all_goals rfl

/-- The request taken by `best` is one of those listed. -/
theorem best_mem (l : List (Level × Request)) (x : Level × Request) (h : best l = some x) : x ∈ l := by
  induction l generalizing x with
  | nil => cases h
  | cons y ys ih =>
    unfold best at h
    split at h
    · injection h with h
      simp [h]
    · rename_i z hz
      split at h
      · injection h with h
        subst h
        exact List.mem_cons_of_mem _ (ih _ hz)
      · injection h with h
        simp [h]

end Sys2Proof.Machine
end

