-- ==== Sys2Proof/Laws/Claims.lean ====
section
/-! SUPPORT. What decode, the wake check, the auto-resume, a System Port presentation, a completion, a commit and a decision answer, in
the vocabulary of the claims (Safety.lean). -/

namespace Sys2Proof.Machine

/-! ### Decode -/

/-- Every descriptor keeps the direction presented. -/
@[simp] theorem Tables.decode_dir (t : Tables) (l : Option Lock) (p : Presented) : (t.decode l p).dir = p.dir := by
  unfold Tables.decode
  dsimp only
  split <;> rfl

/-- Every descriptor keeps the word presented. -/
@[simp] theorem Tables.decode_word (t : Tables) (l : Option Lock) (p : Presented) : (t.decode l p).word = p.word := by
  unfold Tables.decode
  dsimp only
  split <;> rfl

/-- Every descriptor keeps the lanes presented. -/
@[simp] theorem Tables.decode_lanes (t : Tables) (l : Option Lock) (p : Presented) : (t.decode l p).lanes = p.lanes := by
  unfold Tables.decode
  dsimp only
  split <;> rfl

/-- Every descriptor keeps the data presented. -/
@[simp] theorem Tables.decode_data (t : Tables) (l : Option Lock) (p : Presented) : (t.decode l p).data = p.data := by
  unfold Tables.decode
  dsimp only
  split <;> rfl

/-- Every descriptor keeps the source presented. -/
@[simp] theorem Tables.decode_source (t : Tables) (l : Option Lock) (p : Presented) : (t.decode l p).source = p.source := by
  unfold Tables.decode
  dsimp only
  split <;> rfl

/-- A LOCKED write is a System Port write (R12, R13). -/
theorem Tables.decode_lockedWrite (t : Tables) (l : Option Lock) (p : Presented)
    (h : (t.decode l p).disposition = .lockedWrite) : p.dir = .write := by
  unfold Tables.decode at h
  dsimp only at h
  cases hd : p.dir
  · revert h
    cases hs : p.source <;> simp only [dispositionOf, hd] <;> (repeat' split) <;> simp_all
  · rfl

/-- An access that does not fault has a target (R10, R14). -/
theorem Tables.decode_target_of_not_faulted (t : Tables) (l : Option Lock) (p : Presented)
    (h : (t.decode l p).faulted = false) : ∃ tg, (t.decode l p).target = some tg := by
  unfold Tables.decode at h ⊢
  dsimp only at h ⊢
  split
  · rename_i hs
    simp [hs, Descriptor.faulted] at h
  · exact ⟨_, rfl⟩

/-- A read captures nothing (R27). -/
theorem Tables.capture_of_read (t : Tables) (d : Descriptor) (h : d.dir = .read) : t.capture d = t := by
  unfold Tables.capture
  rw [h]
  split <;> simp_all

/-- A capture changes the windows only (R25). -/
@[simp] theorem Tables.capture_regions (t : Tables) (d : Descriptor) : (t.capture d).regions = t.regions := by
  unfold Tables.capture
  split <;> rfl

@[simp] theorem Tables.capture_chipsels (t : Tables) (d : Descriptor) : (t.capture d).chipsels = t.chipsels := by
  unfold Tables.capture
  split <;> rfl

@[simp] theorem Tables.capture_profiles (t : Tables) (d : Descriptor) : (t.capture d).profiles = t.profiles := by
  unfold Tables.capture
  split <;> rfl

@[simp] theorem Tables.capture_watermark (t : Tables) (d : Descriptor) : (t.capture d).watermark = t.watermark := by
  unfold Tables.capture
  split <;> rfl

/-! ### The wake check and the auto-resume -/

/-- The wake check's test is the wake condition (R68). -/
theorem State.wakeHolds_iff (s : State) (k : Cs) : s.wakeHolds k = true ↔ s.WakeCondition k := by
  unfold State.wakeHolds State.WakeCondition Retention.holds SliceState.wakes
  cases s.slices[k].state <;> cases s.retention.state <;> cases s.retention.participants[k] <;> simp

/-- The auto-resume changes the Retention Controller only, as R157 says. -/
theorem State.autoResume_of_target (s : State) (d : Descriptor) (tg : Target) (h : d.target = some tg) :
    s.autoResume d = { s with retention := s.retention.afterAccess tg.cs } := by
  unfold State.autoResume State.forParticipant Retention.afterAccess
  simp only [h]
  by_cases h1 : s.retention.state = .retained <;> by_cases h2 : s.retention.participants[tg.cs] = true <;>
    simp_all [State.enterResuming, Retention.issueAll, Retention.resumed, State.setRetention]

/-! ### Presentations -/

/-- A presentation of the terminals can be taken (R64). -/
theorem State.spReady_of_presented (s : State) (t : SpTerminals) (h : s.Presented t) : s.spReady t = true := by
  obtain ⟨h1, h2, h3, h4, h5⟩ := h
  unfold State.spReady SpTerminals.presents
  simp [h1, h2, h3, h4, h5]

/-- What a presentation does, by the disposition of the decoded access (R15, R17, R80). -/
theorem State.presentSp_eq (s : State) (t : SpTerminals) :
    s.presentSp t =
      match (s.spDecoded t).disposition with
      | .fault k =>
        (s.endLock.deliver ((s.spDecoded t).spOccurrence k)).setAccess (.answered .abort (abortWord (s.spDecoded t)) (s.spDecoded t))
      | .lockedWrite => (s.setTables (s.tables.capture (s.spDecoded t))).handOnSp (s.spDecoded t)
      | _ => (s.endLock.setTables (s.tables.capture (s.spDecoded t))).handOnSp (s.spDecoded t) := by
  unfold State.presentSp
  have hd : (if t.rd = true then s.endLock else s).tables.decode (if t.rd = true then s.endLock else s).sp.lock (spPresented t)
      = s.spDecoded t := by
    unfold State.spDecoded
    by_cases h : t.rd = true <;> simp [h]
  dsimp only
  rw [hd]
  have hl : (s.spDecoded t).disposition = .lockedWrite → t.rd = false := by
    intro h
    have := Tables.decode_lockedWrite _ _ _ h
    by_contra hc
    simp [spPresented, spDirection, hc] at this
  cases hdis : (s.spDecoded t).disposition
  case lockedWrite => simp [hl hdis]
  all_goals
    by_cases hr : t.rd = true <;> simp [hr]
    all_goals rfl

/-- The test of an ORDER hold, as R52 and R55 put it. -/
theorem orderWaits_iff (q : List Entry) (d : Descriptor) (tg : Target) (h : d.target = some tg) :
    orderWaits q d = true ↔
      ∃ e ∈ q, if d.disposition = .forwardCheck then e.cs = tg.cs ∧ e.phys = tg.phys else e.cs = tg.cs := by
  unfold orderWaits
  simp only [h]
  cases d.disposition <;> simp [Entry.at]

/-- The wake check puts the access in WAKE or GRANT by the wake condition (R68). -/
theorem State.spWakeCheck_eq (s : State) (d : Descriptor) (tg : Target) (h : d.target = some tg) (why : HoldReason)
    (hw : s.WakeCondition tg.cs ∧ why = .wake ∨ ¬ s.WakeCondition tg.cs ∧ why = .grant) :
    s.spWakeCheck d = s.setAccess (.hold why d) := by
  unfold State.spWakeCheck State.descHeld
  rw [← State.wakeHolds_iff] at hw
  simp only [h]
  rcases hw with ⟨hw, rfl⟩ | ⟨hw, rfl⟩ <;> simp [hw]

/-! ### Completions and commits -/

/-- The word whose completion stands is the ended word (R132). -/
theorem State.endedWord_of_wordEnded (s : State) (w : WordTxn) (h : WordHolder) (hw : s.WordEnded w h) :
    s.endedWord = some w := by
  obtain ⟨h1, h2, h3, _⟩ := hw
  simp [State.endedWord, h1, h2, h3]

/-- The slice whose transaction's completion stands is the ended one (R130, R131). -/
theorem State.endedSlice_of_sliceEnded (s : State) (k : Cs) (op : SliceOp) (h : s.SliceEnded k op) : s.endedSlice op = some k := by
  obtain ⟨h1, t, h2, h3, h4, h5⟩ := h
  simp [State.endedSlice, h1, h2, h3, h4, h5]

/-- A commit of a frame that waits for it puts the reply's result and data in the frame (R173). -/
theorem State.commit_of_atCommit (s : State) (f : Frame) (bytes : List Byte) (h : s.AtCommit f bytes) (r : Reply)
    (hm : r.state.mp = s.mp) : s.commit bytes r = r.state.withResult f r.result r.data := by
  obtain ⟨h1, h2, h3, h4⟩ := h
  rw [State.commit_of_frame s f bytes r h1 h2 h3 h4]
  simp [State.withResult, State.setMp, Frame.perform, hm]

/-! ### Decisions -/

/-- Nothing is chosen only when nothing stands. -/
theorem best_eq_none (l : List (Level × Request)) (h : best l = none) : l = [] := by
  cases l with
  | nil => rfl
  | cons a l =>
    unfold best at h
    cases hb : best l <;> simp [hb] at h
    split at h <;> simp at h

/-- No listed request outranks the one that `best` takes (R104). -/
theorem best_rank_le (l : List (Level × Request)) (x : Level × Request) (h : best l = some x) : ∀ y ∈ l, x.1.rank ≤ y.1.rank := by
  induction l generalizing x with
  | nil => simp
  | cons a l ih =>
    unfold best at h
    intro z hz
    rw [List.mem_cons] at hz
    cases hb : best l with
    | none =>
      simp only [hb, Option.some.injEq] at h
      rcases hz with rfl | hz
      · rw [h]
      · simp [best_eq_none l hb] at hz
    | some y =>
      simp only [hb] at h
      have hy := ih y hb
      split at h
      all_goals
        simp only [Option.some.injEq] at h
        subst h
        rcases hz with rfl | hz
      · omega
      · exact hy z hz
      · exact Nat.le_refl _
      · have := hy z hz
        omega

end Sys2Proof.Machine
end

