-- ==== Sys2Proof/WellFormed.lean ====
section
/-! DEFINITION. Which commands are well formed: the operands are such that the row's event can be what they describe. exec is
total all the same; an ill-formed command changes nothing or is refused with BAD_ITEM (logs 3 and 21). -/

namespace Sys2Proof

/-- The command's operands describe an event of its row: a presentation has CE_N and exactly one strobe asserted (R64); a frame of
the UNKNOWN_OPCODE row fails one of checks 1 to 3 of R173; a READ_ITEM names an item (R173 check 2). -/
def Instr.wellFormed : Instr → Bool
  | .spPresentation t => t.presents
  | .spAccessEnd => true
  | .deferredPresentation => true
  | .lockNRelease => true
  | .spReleaseSeen => true
  | .apPresentation _ => true
  | .writeBeat _ => true
  | .axReqRelease => true
  | .closingPeriodEnd => true
  | .phaseEnd _ => true
  | .mrdyReady _ => true
  | .readyLimitExceeded => true
  | .spTransactionCompletion _ => true
  | .drainCompletion => true
  | .burstWordEnd => true
  | .burstCompletion => true
  | .refreshCompletion => true
  | .selfEnterCompletion => true
  | .selfExitCompletion => true
  | .intervalExpiry _ => true
  | .exitTimerExpiry _ => true
  | .frameStart => true
  | .frameEnd => true
  | .unknownOpcode opcode argument _ => Machine.frameRefused opcode argument
  | .getSummary _ => true
  | .readItem argument => (Machine.itemOf argument).isSome
  | .writeRegion _ _ => true
  | .writeProfile _ _ => true
  | .writeChipsel _ _ => true
  | .writeBankwin _ _ => true
  | .writeQueueWatermark _ => true
  | .writeAlertEnables _ => true
  | .popFault _ => true
  | .peekFault _ => true
  | .clearCauses _ _ => true
  | .enterRetention _ => true
  | .exitRetention _ => true
  | .configReset _ => true
  | .pinReset => true
  | .resetRelease _ => true

end Sys2Proof
end

