-- ==== Sys2Proof/Tests/Slice0.lean ====
section
/-! SUPPORT. The author's own tests: ill-formed commands, one-step checks of the spec's worked examples, and a witness for the hypotheses
of each statement. -/

namespace Sys2Proof.Tests

open Sys2Proof Sys2Proof.Machine

/-! ### Builders -/

/-- A region entry. -/
def reg (base size : Nat) (cls : RegionClass) (aux : Bool) (cs : Cs) (window profile : Nat) : Region :=
  { valid := true, base := BitVec.ofNat 12 base, sizeCode := BitVec.ofNat 4 size, cls, aux, cs, offset := 0,
    window := BitVec.ofNat 8 window, profile := BitVec.ofNat 8 profile }

/-- A chip-select descriptor with the reset values of the other fields. -/
def chip (cls : CsClass) (enable : Bool) : ChipSel :=
  { cls, interval := 1560, cycle := 12, threshold := 5, enable, exitTime := 400 }

/-- The tables of the decode examples of 1.7: CS0 ROM, CS1 SRAM, CS2 DRAM, CS3 UNUSED, window 0 with bank 3. -/
def tabs : Tables :=
  { Tables.reset with
    regions := ((((Tables.reset.regions.set 0 (reg 0 8 .read false 0 0xFF 7)).set 1 (reg 0x100 8 .strict false 0 0xFF 6)).set 2
      (reg 0x200 7 .posted true 1 0xFF 1)).set 3 (reg 0x400 6 .posted true 2 0 2)).set 4 (reg 0x300 4 .posted true 3 0xFF 1)
    windows := Tables.reset.windows.set 0 { enable := false, addr := 0, bank := 3 }
    chipsels := #v[chip .rom false, chip .sram false, chip .dram true, chip .unused false] }

/-- An ACTIVE slice with `debt`. -/
def act (debt : Nat) : Slice := { state := .active, debt, interval := some 1560, inForce := 1560, exitTimer := none }

/-- The part configured as in 1.7 with every input seen released and CS2's slice ACTIVE. -/
def up : State :=
  { State.reset with
    tables := tabs
    sp := { SysPort.reset with releaseSeen := true }
    ap := { AuxPort.reset with releaseSeen := true }
    mp := { MgmtPort.reset with mselSeen := true }
    slices := State.reset.slices.set 2 (act 0) }

/-- System Port terminals of an access to host byte `h`. -/
def pins (rd : Bool) (h : Nat) (ub lb : Bool) (d : BusWord) (lock : Bool) : SpTerminals :=
  { ce := true, rd, wr := !rd, ub, lb, lock, a := BitVec.ofNat 23 (h / 2), d }

/-- Released System Port terminals. -/
def released : SpTerminals := { ce := false, rd := false, wr := false, ub := false, lb := false, lock := false, a := 0, d := 0 }

/-- A read of both lanes. -/
def rd (h : Nat) : SpTerminals := pins true h true true 0 false

/-- A write of both lanes. -/
def wr (h : Nat) (d : BusWord) : SpTerminals := pins false h true true d false

/-- A burst request. -/
def burst (write : Bool) (h n : Nat) : ApTerminals := { a := BitVec.ofNat 23 (h / 2), len := BitVec.ofNat 3 (n - 1), wr := write, beat := none }

/-- The state a command leads to. -/
def after (c : Instr) (s : State) : State :=
  match step { s with pending := [c] } with
  | .next t => t
  | _ => s

/-- A queue entry. -/
def ent (cs : Cs) (phys : Nat) (lanes : Lanes) (data : BusWord) (onChannel : Bool) : Entry :=
  { cs, phys := BitVec.ofNat 23 phys, lanes, data, word := 0, region := 2, profile := 1, onChannel }

/-- A word transaction of one word with its phases run out. -/
def ended (h : WordHolder) (dir : Direction) (cs : Cs) (timedOut : Bool) : WordTxn :=
  { holder := h, dir, cs, start := 8, count := 1, current := 0, lanes := .ul, data := [0x1234], timing := up.tables.profiles[0],
    phase := .ended, left := 0, readyCount := 0, sampleDue := false, timedOut, taken := 0xBEEF }

/-- `s` with this word on the channel. -/
def onWord (s : State) (w : WordTxn) : State := s.setTxn (some (.word w))

/-- `s` with a transaction of slice CS2 on the channel whose cycle length has run out. -/
def onSlice (s : State) (op : SliceOp) : State := s.setTxn (some (.slice { cs := 2, op, cycle := 12, left := 0 }))

/-- `s` with slice CS2 in state `st`, its debt and timers as given. -/
def slice2 (s : State) (st : SliceState) (debt : Nat) (interval exitTimer : Option Nat) : State :=
  s.setSlice 2 { state := st, debt, interval, inForce := 1560, exitTimer }

/-- `s` with the retention state and the participant set CS2. -/
def retaining (s : State) (r : RetState) (begun : Bool) : State :=
  s.setRetention { state := r, participants := #v[false, false, true, false], begun, issued := #v[none, none, none, none] }

/-- A frame that has received these bytes and performed nothing. -/
def waiting (bytes : List Byte) : Frame :=
  { phase := if bytes.length ≤ 2 then .argument else .payload, summary := 0, received := bytes, result := none, data := [] }

/-- `s` with that frame in progress. -/
def framed (s : State) (bytes : List Byte) : State := s.setMp { s.mp with frame := some (waiting bytes) }

/-- The bytes of a WRITE_ITEM frame, as the spec orders them. -/
def written (arg : Byte) (p : Payload) : List Byte := 0x21 :: arg :: p.toList

/-- A frame at its start. -/
def fresh : Frame := { phase := .opcode, summary := 0x24, received := [], result := none, data := [] }

/-- The result and data bytes of the frame in progress. -/
def reply (s : State) : Option (Option Result × List Byte) := s.mp.frame.map (fun f => (f.result, f.data))

/-- The descriptor of a System Port access to the part of 1.7. -/
def dsc (t : SpTerminals) : Descriptor := up.spDecoded t

/-- Where a decode goes: region, physical word and disposition. -/
def landing (d : Descriptor) : Option (Fin 16 × WordAddr) × Disposition := (d.target.map (fun t => (t.region, t.phys)), d.disposition)

/-- A payload from its bytes. -/
def pay (a b c d e f g h : Byte) : Payload := #v[a, b, c, d, e, f, g, h]

/-! ### Ill-formed commands -/

theorem test_wf_two_strobes : (Instr.spPresentation { rd 0 with wr := true }).wellFormed = false := by decide
theorem test_wf_no_strobe : (Instr.spPresentation { rd 0 with rd := false }).wellFormed = false := by decide
theorem test_wf_not_enabled : (Instr.spPresentation { rd 0 with ce := false }).wellFormed = false := by decide
theorem test_wf_known_opcode : (Instr.unknownOpcode 0x10 0 (pay 0 0 0 0 0 0 0 0)).wellFormed = false := by decide
theorem test_wf_named_item : (Instr.unknownOpcode 0x20 0x50 (pay 0 0 0 0 0 0 0 0)).wellFormed = false := by decide
theorem test_wf_no_item : (Instr.readItem 0x28).wellFormed = false := by decide
theorem test_wf_accepted :
    (Instr.spPresentation (rd 0)).wellFormed = true ∧ (Instr.unknownOpcode 0x99 0 (pay 0 0 0 0 0 0 0 0)).wellFormed = true
      ∧ (Instr.unknownOpcode 0x21 0x80 (pay 0 0 0 0 0 0 0 0)).wellFormed = true ∧ (Instr.readItem 0x27).wellFormed = true := by
  decide

/-! ### The decode examples of 1.7 and the worked calculation of 1.3 -/

theorem test_decode_reads :
    landing (dsc (rd 0x001000)) = (some (0, 0x000800), .forwardCheck)
      ∧ landing (dsc (pins true 0x100000 true true 0 true)) = (some (1, 0), .lockedRead)
      ∧ landing (dsc (rd 0x300000)) = (some (4, 0), .fault .targetAbsent)
      ∧ landing (dsc (rd 0x500000)) = (none, .fault .decodeMiss) := by
  decide

theorem test_decode_writes :
    landing (dsc (pins false 0x001000 false true 0 false)) = (some (0, 0x000800), .fault .readOnlyWrite)
      ∧ landing (dsc (wr 0x100AAA 0)) = (some (1, 0x000555), .strict)
      ∧ landing (dsc (pins false 0x200010 true false 0 false)) = (some (2, 0x000008), .posted)
      ∧ landing (dsc (wr 0x400020 0)) = (some (3, 0x060010), .posted) := by
  decide

theorem test_decode_bursts :
    landing (up.apDecoded (burst true 0x200100 8)) = (some (2, 0x000080), .strict)
      ∧ landing (up.apDecoded (burst false 0x43FFFC 4)) = (some (3, 0x07FFFE), .fault .burstSplit)
      ∧ landing (up.apDecoded (burst false 0x000000 1)) = (some (0, 0), .fault .auxDenied) := by
  decide

theorem test_physical_worked_calculation :
    physWord { reg 0x100 4 .posted false 1 1 0 with offset := 0x200 } 5 (BitVec.ofNat 23 0x085237) = 0x12D237
      ∧ physByte { reg 0x100 4 .posted false 1 1 0 with offset := 0x200 } 6 0x10A46E = 0x26A46E := by
  decide

/-! ### One step of each command -/

/-- The queue of the worked sequence of chapter 3 after its fifth step: CS1 word 8 held by three writes. -/
def chapter3 : List Entry := [ent 1 8 .ul 0xABCD true, ent 1 8 .l 0x00EE false, ent 1 0x10 .ul 0x1111 false]

theorem test_forward_hit_of_chapter3 : forwardCheck chapter3 { region := 2, cs := 1, phys := 8, profile := 1 } .ul = .hit 0xABEE := by
  decide

theorem test_posted_write_drains_at_a_free_channel :
    let s := after (.spPresentation (wr 0x200010 0x1234)) up
    s.sp.access = .answered .data none (dsc (wr 0x200010 0x1234)) ∧ s.queue.map (·.onChannel) = [true]
      ∧ s.channel.heldBy .head = true ∧ s.channel.ma = 8 := by
  decide

theorem test_access_end_returns_to_idle :
    (after .spAccessEnd (up.setAccess (.answered .data none (dsc (rd 0))))).sp.access = .idle := by decide

theorem test_deferred_presentation_waits :
    (after .deferredPresentation (up.setAccess (.channel true (dsc (rd 0))))).sp.waitN = true := by decide

theorem test_lock_release :
    (after .lockNRelease (up.setSp { up.sp with lock := some { cs := 2, phys := 0x060020 } })).sp.lock = none := by decide

theorem test_release_seen : (after .spReleaseSeen State.reset).sp.releaseSeen = true := by decide

theorem test_read_burst_is_granted : (after (.apPresentation (burst false 0x200100 8)) up).ap.phase = .burst := by decide

theorem test_write_burst_waits_for_its_beats :
    (after (.apPresentation (burst true 0x200100 2)) up).ap.phase = .grant
      ∧ (after (.writeBeat 2) (after (.writeBeat 1) (after (.apPresentation (burst true 0x200100 2)) up))).ap.phase = .burst := by
  decide

theorem test_request_withdrawn :
    let s := after .axReqRelease (after (.apPresentation (burst true 0x200100 2)) up)
    s.ap.phase = .idle ∧ s.faults.log.map (·.occ.kind) = [.hostWithdrawn] := by
  decide

theorem test_closing_period_end :
    (after .closingPeriodEnd (up.setAp { up.ap with phase := .closing .done, closeLeft := some 0 })).ap.phase = .idle := by decide

theorem test_setup_ends_in_the_strobe :
    (after (.phaseEnd 0) (onWord up { ended .sp .read 1 false with phase := .setup })).channel.terminals.moe = true := by decide

theorem test_ready_ends_the_strobe :
    (after (.mrdyReady 0xCAFE) (onWord up { ended .sp .read 1 false with phase := .readyWait, sampleDue := true })).channel.word.map
      (·.taken) = some 0xCAFE := by
  decide

theorem test_ready_limit_times_out :
    (after .readyLimitExceeded
        (onWord up { ended .sp .read 1 false with phase := .readyWait, sampleDue := true, readyCount := 1023 })).channel.word.map
      (·.timedOut) = some true := by
  decide

theorem test_read_completion_answers :
    (after (.spTransactionCompletion released) (onWord (up.setAccess (.channel false (dsc (rd 0x200010))))
      (ended .sp .read 1 false))).sp.dOut = some 0xBEEF := by
  decide

theorem test_late_write_is_recorded :
    let s := after .drainCompletion (onWord (up.setQueue [ent 1 8 .ul 0x1234 true]) (ended .head .write 1 true))
    s.queue = [] ∧ s.faults.log.map (·.occ.kind) = [.lateWrite] ∧ s.faults.causes.late = true := by
  decide

theorem test_burst_word_end_and_completion :
    let s := (up.setAp { up.ap with phase := .burst, desc := some (up.apDecoded (burst false 0x200100 2)), axReq := true })
    (after .burstWordEnd (onWord s { ended .ap .read 1 false with count := 2 })).ap.axOut = .beat 0xBEEF
      ∧ (onWord s (ended .ap .read 1 false)).ap.axOut = .quiet
      ∧ (after .burstCompletion (onWord s { ended .ap .read 1 false with count := 2, current := 1 })).ap.endN = true := by
  decide

theorem test_last_warmup_refresh :
    ((after .refreshCompletion (onSlice (slice2 up .warmup 1 none none) .refresh)).slices[2]).state = .active := by decide

theorem test_self_enter_and_exit :
    ((after .selfEnterCompletion (onSlice (retaining up .draining true) .selfEnter)).retention.state = .retained)
      ∧ ((after .selfExitCompletion (onSlice (slice2 (retaining up .resuming false) .self 0 none none) .selfExit)).slices[2]).state
        = .waking := by
  decide

theorem test_timers :
    ((after (.intervalExpiry 2) (slice2 up .active 8 (some 0) none)).faults.log.map (·.occ.kind)) = [.refreshOverrun]
      ∧ ((after (.exitTimerExpiry 2) (slice2 up .waking 0 none (some 0))).slices[2]).interval = some 1560 := by
  decide

theorem test_frames :
    (after .frameStart up).mp.frame = some { fresh with summary := 0 } ∧ (after .frameEnd (framed up [0x10])).mp.errorFlag = true := by
  decide

theorem test_bytes_up_to_the_commit_point :
    (fresh.shift 0x32).phase = .argument ∧ ((fresh.shift 0x32).shift 7).phase = .payload
      ∧ ((fresh.shift 0x32).shift 7).commitDue = false ∧ (((fresh.shift 0x32).shift 7).shift 8).received = [0x32, 7, 8]
      ∧ (((fresh.shift 0x32).shift 7).shift 8).commitDue = true ∧ ((fresh.shift 0x10).shift 7).commitDue = true := by
  decide

theorem test_mso_byte_by_byte :
    let f := (waiting [0x20, 0x80]).perform .done [0x0D, 0x64]
    let g := (waiting [0x32, 0, 1]).perform .done []
    fresh.mso = 0x24 ∧ (waiting [0x20]).mso = 0 ∧ f.mso = 0 ∧ (f.shift 9).mso = 0x0D ∧ ((f.shift 9).shift 9).mso = 0x64
      ∧ (((f.shift 9).shift 9).shift 9).mso = 0xFF ∧ (g.shift 9).mso = 0xFF ∧ (g.shift 9).phase = .trailing := by
  decide

/-- The frame and the bytes on their way after a step on an empty queue. -/
def idled (s : State) (msi : List MsiByte) : Option Frame × List MsiByte :=
  match step { s with msi, pending := [] } with
  | .next t => (t.mp.frame, t.msi)
  | _ => (none, [])

theorem test_a_byte_arrives_in_a_ck_period :
    idled (framed up [0x10]) [{ wait := 1, byte := 7 }] = (some (waiting [0x10]), [{ wait := 0, byte := 7 }])
      ∧ idled (framed up [0x10]) [{ wait := 0, byte := 7 }] = (some (waiting [0x10, 7]), [])
      ∧ idled (framed up [0x10, 7]) [{ wait := 0, byte := 8 }] = (some (waiting [0x10, 7]), [{ wait := 0, byte := 8 }])
      ∧ idled up [{ wait := 0, byte := 7 }] = (none, []) := by
  decide

theorem test_frame_replies :
    reply (after (.unknownOpcode 0x99 0 (pay 0 0 0 0 0 0 0 0)) (framed up [0x99, 0])) = some (some .badItem, [])
      ∧ reply (after (.getSummary 0) (framed up [0x10, 0])) = some (some .done, [0x00])
      ∧ reply (after (.readItem 0x80) (framed up [0x20, 0x80])) = some (some .done, [0x0D, 0x64, 0x02, 0, 0, 0, 0, 0])
      ∧ reply (after (.popFault 0) (framed up [0x30, 0])) = some (some .done, List.replicate 16 0)
      ∧ reply (after (.peekFault 0) (framed up [0x31, 0])) = some (some .done, List.replicate 16 0)
      ∧ reply (after (.peekFault 0) (framed up [0x31])) = some (none, []) := by
  decide

/-- `s` after a WRITE_ITEM command whose frame has received argument `arg` and payload `p`. -/
def writes (c : Instr) (arg : Byte) (p : Payload) (s : State) : State := after c (framed s (written arg p))

theorem test_region_writes :
    (let p := pay 0x94 0x01 0x00 0 0 1 0xFF 0;
      reply (writes (.writeRegion 5 p) 0x15 p up) = some (some .done, []))
      ∧ (let p := pay 0x94 0x01 0x01 0 0 1 0xFF 0;
      reply (writes (.writeRegion 5 p) 0x15 p up) = some (some .badValue, [])) := by
  decide

theorem test_table_writes :
    (let p := pay 1 2 1 2 2 0 16 0;
      ((writes (.writeProfile 3 p) 0x23 p up).tables.profiles[3]).mode = .readyAfterStrobe)
      ∧ (let p := pay 1 0x10 0x00 0x00 63 0 0 0;
        ((writes (.writeBankwin 0 p) 0x40 p up).tables.windows[0]).bank = 63)
      ∧ (let p := pay 0 4 0 0 0 0 0 0;
        (writes (.writeQueueWatermark p) 0x50 p up).tables.watermark = 4)
      ∧ (let p := pay 0 0x11 0 0 0 0 0 0;
        (writes (.writeAlertEnables p) 0x60 p up).faults.enables.log = true) := by
  decide

theorem test_chipsel_enable_warms_up :
    let p := pay 0xE5 0x06 0x18 12 0x01 0x90 0 0
    let s := writes (.writeChipsel 3 p) 0x33 p up
    reply s = some (some .done, []) ∧ s.slices[3].state = .warmup ∧ s.slices[3].debt = 8
      ∧ s.channel.terminals.mref = true := by
  decide

theorem test_clear_causes :
    (after (.clearCauses 0 0x0F) (framed (up.setFaults up.faults.setRetain) [0x32, 0, 0x0F])).faults.causes.retain = false := by
  decide

theorem test_retention_round :
    (after (.enterRetention 0) (framed up [0x40, 0])).retention.issued[2] = some .enter
      ∧ (after (.exitRetention 0) (framed (slice2 (retaining up .retained false) .self 0 none none) [0x41, 0])).retention.state
        = .resuming := by
  decide

theorem test_config_reset :
    reply (after (.configReset 0) (framed up [0x5A, 0])) = some (some .done, [])
      ∧ reply (after (.configReset 0) (framed (onSlice up .refresh) [0x5A, 0])) = some (some .busy, []) := by
  decide

theorem test_pin_reset_and_release :
    (after .pinReset up).tables = Tables.reset
      ∧ (after (.resetRelease { spReleased := true, axReleased := true, mselReleased := true }) (after .pinReset up)).ap.releaseSeen
        = true := by
  decide

/-! ### The layouts of 11.6 -/

theorem test_fault_record_layout :
    FaultRecord.bytes
        { serial := 0x0102
          occ := (dsc (pins false 0x001000 false true 0x1234 false)).spOccurrence .readOnlyWrite }
      = [0x01, 0x02, 0x03, 0x12, 0xDE, 0x00, 0x08, 0x00, 0x00, 0x08, 0x00, 0x12, 0x34, 0x00, 0x40, 0x00] := by
  decide

theorem test_alert_and_retention_layout :
    FaultUnit.bytes
        { FaultUnit.reset with
          serial := 0x0102, dropped := 3, causes := { drop := true, late := false, overrun := false, retain := true },
          enables := { log := true, drop := false, late := true, overrun := false, retain := false } }
      = [0x09, 0x14, 0x03, 0x01, 0x02, 0, 0, 0]
      ∧ (retaining up .retained false).retention.bytes = [2, 4, 0, 0, 0, 0, 0, 0]
      ∧ queueBytes [ent 2 0x060010 .ul 0 false] 12 0 = [1, 12, 0x82, 0x06, 0x00, 0x10, 0, 0] := by
  decide

/-! ### Witnesses: states and operands that meet the hypotheses of each statement, its clauses and their boundary values -/

/-- A System Port presentation can be taken in the part of 1.7. -/
theorem test_presented (t : SpTerminals) (h : t.ce = true ∧ t.rd ≠ t.wr) : up.Presented t :=
  ⟨rfl, rfl, rfl, h.1, h.2⟩

/-- A frame that has received `bytes` waits for its commit point with them. -/
theorem test_at_commit (s : State) (bytes : List Byte) (h : s.resetAsserted = false) :
    (framed s bytes).AtCommit (waiting bytes) bytes :=
  ⟨h, rfl, rfl, rfl⟩

/-- The entry covers the word: the hypothesis of LowestCoveringEntryIsSelected. -/
abbrev Covers (t : Tables) (w : WordAddr) (i : Fin 16) : Prop :=
  t.regions[i].valid = true ∧ t.regions[i].base.toNat * 4096 ≤ 2 * w.toNat
    ∧ 2 * w.toNat < (t.regions[i].base.toNat + 2 ^ t.regions[i].sizeCode.toNat) * 4096

/-- The part of 1.7 with a lock held on CS2. -/
def locked : State := up.setSp { up.sp with lock := some { cs := 2, phys := 0x060020 } }

/-- Sixteen entries none of which merges with a write to CS1 word 8. -/
def fullQueue : List Entry := List.replicate 16 (ent 1 0x10 .ul 0x1111 false)

/-- The part of 1.7 with CS2 asleep in RETAINED. -/
def asleep : State := slice2 (retaining up .retained false) .self 0 none none

/-- A write burst of two words, presented. -/
def twoWords : Descriptor := up.apDecoded (burst true 0x200100 2)

/-- The part of 1.7 with a burst in state `p`. -/
def bursting (p : ApPhase) : State := up.setAp { up.ap with phase := p, desc := some twoWords, axReq := true }

theorem test_witness_EmptyQueuePassesOnePeriod :
    (up.pending = [] ∧ up.due = false) ∧ (onSlice up .refresh).pending = [] ∧ (onSlice up .refresh).due = true
      ∧ (framed up [0x10]).due = false ∧ (framed up [0x10, 0]).due = true ∧ (framed up [0x32, 0]).due = false
      ∧ (framed up [0x32, 0, 1]).due = true ∧ (onWord up (ended .sp .read 1 false)).due = true
      ∧ (onWord up { ended .sp .read 1 false with phase := .readyWait, sampleDue := true, readyCount := 1022 }).due = false
      ∧ (onWord up { ended .sp .read 1 false with phase := .readyWait, sampleDue := true, readyCount := 1023 }).due = true := by
  decide

theorem test_witness_ReleasesAreSeenAfterReset :
    (after .pinReset up).resetAsserted = true ∧ up.resetAsserted = false ∧ Instr.frameStart ≠ .pinReset
      ∧ ∀ l, Instr.frameStart ≠ .resetRelease l :=
  ⟨rfl, rfl, by decide, fun _ h => nomatch h⟩

theorem test_witness_LowestCoveringEntryIsSelected :
    (Covers tabs 0x200000 3 ∧ ∀ j : Fin 16, j < 3 → ¬ Covers tabs 0x200000 j)
      ∧ (Covers tabs 0x21FFFF 3 ∧ ∀ j : Fin 16, j < 3 → ¬ Covers tabs 0x21FFFF j)
      ∧ (∀ i : Fin 16, ¬ Covers tabs 0x220000 i) ∧ ∀ i : Fin 16, ¬ Covers tabs 0x1FFFFF i := by
  decide

theorem test_witness_PhysicalAddressIsTheSumModulo16MiB :
    (tabs.select 0x200000 = some 3 ∧ tabs.regions[(3 : Fin 16)].window.toNat = (0 : Fin 4).val)
      ∧ (tabs.select 0x100000 = some 2 ∧ 4 ≤ tabs.regions[(2 : Fin 16)].window.toNat)
      ∧ (let t := { tabs with regions := tabs.regions.set 3 (reg 0x400 6 .posted true 2 3 2) };
         t.select 0x21FFFF = some 3 ∧ t.regions[(3 : Fin 16)].window.toNat = (3 : Fin 4).val)
      ∧ (let t := { tabs with regions := tabs.regions.set 3 (reg 0x400 6 .posted true 2 4 2) };
         t.select 0x21FFFF = some 3 ∧ 4 ≤ t.regions[(3 : Fin 16)].window.toNat) := by
  decide

theorem test_witness_BurstWordsLandAsDecodedAlone :
    tabs.regions[2].base.toNat * 4096 ≤ 2 * (0x100000 : WordAddr).toNat
      ∧ tabs.regions[3].base.toNat * 4096 ≤ 2 * (0x21FFFF : WordAddr).toNat := by
  decide

/-- The last word of the burst is inside the entry. -/
abbrev Inside (r : Region) (p : Presented) : Prop :=
  r.base.toNat * 4096 ≤ 2 * (p.word.toNat + p.words - 1)
    ∧ 2 * (p.word.toNat + p.words - 1) < (r.base.toNat + 2 ^ r.sizeCode.toNat) * 4096

theorem test_witness_FirstFailedCheckNamesTheFault :
    tabs.select 0x220000 = none ∧ (let t := { tabs with regions := tabs.regions.set 2 (reg 0x200 7 .none true 1 0xFF 1) };
      t.select 0x100000 = some 2 ∧ t.regions[(2 : Fin 16)].cls = .none)
      ∧ (let p := apPresented (burst false 0 1);
        tabs.select p.word = some 0 ∧ tabs.regions[(0 : Fin 16)].cls ≠ .none ∧ p.source = .ap
          ∧ tabs.regions[(0 : Fin 16)].aux = false)
      ∧ (let p := spPresented (wr 0x0FFFFE 0);
        tabs.select p.word = some 0 ∧ tabs.regions[(0 : Fin 16)].cls = .read ∧ p.source = .sp ∧ p.dir = .write)
      ∧ (let p := spPresented (rd 0x300000);
        tabs.select p.word = some 4 ∧ tabs.regions[(4 : Fin 16)].cls ≠ .none ∧ p.source = .sp ∧ p.dir = .read
          ∧ tabs.chipsels[tabs.regions[(4 : Fin 16)].cs].cls = .unused)
      ∧ (let p := apPresented (burst false 0x43FFFC 3);
        tabs.select p.word = some 3 ∧ tabs.regions[(3 : Fin 16)].cls ≠ .none ∧ p.source = .ap
          ∧ tabs.regions[(3 : Fin 16)].aux = true ∧ p.dir = .read ∧ tabs.chipsels[tabs.regions[(3 : Fin 16)].cs].cls ≠ .unused
          ∧ ¬ Inside tabs.regions[(3 : Fin 16)] p)
      ∧ (let p := apPresented (burst false 0x43FFFC 2);
        tabs.select p.word = some 3 ∧ tabs.regions[(3 : Fin 16)].aux = true ∧ Inside tabs.regions[(3 : Fin 16)] p) := by
  decide

theorem test_witness_DispositionFollowsTheTable :
    (let d (lock : Option Lock) (p : Presented) (i : Fin 16) : Prop :=
        tabs.select p.word = some i ∧ (tabs.decode lock p).target.isSome = true ∧ (tabs.decode lock p).faulted = false;
      d none (apPresented (burst true 0x200100 8)) 2
        ∧ d none (spPresented (pins true 0x100000 true true 0 true)) 1
        ∧ d none (spPresented (rd 0x100000)) 1 ∧ tabs.regions[(1 : Fin 16)].cls = .strict
        ∧ d none (spPresented (rd 0)) 0 ∧ tabs.regions[(0 : Fin 16)].cls = .read
        ∧ d (some { cs := 2, phys := 0x060010 }) (spPresented (wr 0x400020 0)) 3
        ∧ d (some { cs := 2, phys := 0x060011 }) (spPresented (wr 0x400020 0)) 3 ∧ tabs.regions[(3 : Fin 16)].cls = .posted
        ∧ d none (spPresented (wr 0x100AAA 0)) 1)
      ∧ (tabs.decode (some { cs := 2, phys := 0x060010 }) (spPresented (wr 0x400020 0))).target.map (fun t => (t.cs, t.phys))
        = some (2, 0x060010) := by
  decide

theorem test_witness_FaultedSystemAccessIsRefusedAtOnce :
    up.Presented (rd 0x300000) ∧ (up.spDecoded (rd 0x300000)).disposition = .fault .targetAbsent
      ∧ up.Presented (wr 0 7) ∧ (up.spDecoded (wr 0 7)).disposition = .fault .readOnlyWrite :=
  ⟨test_presented _ (by decide), by decide, test_presented _ (by decide), by decide⟩

theorem test_witness_ForwardHitIsAnsweredFromTheQueue :
    let s := up.setQueue chapter3
    let tg : Target := { region := 2, cs := 1, phys := 8, profile := 1 }
    s.Presented (rd 0x200010) ∧ (s.spDecoded (rd 0x200010)).disposition = .forwardCheck
      ∧ (s.spDecoded (rd 0x200010)).target = some tg ∧ forwardCheck s.queue tg (s.spDecoded (rd 0x200010)).lanes = .hit 0xABEE :=
  ⟨⟨rfl, rfl, rfl, rfl, by decide⟩, by decide, by decide, by decide⟩

theorem test_witness_PostedWriteIsQueuedOrHeldInFull :
    let d := up.spDecoded (wr 0x200010 7)
    let tg : Target := { region := 2, cs := 1, phys := 8, profile := 1 }
    up.Presented (wr 0x200010 7) ∧ d.disposition = .posted ∧ d.target = some tg
      ∧ (offer (fullQueue.take 15) (newEntry d tg)).isSome = true ∧ offer fullQueue (newEntry d tg) = none :=
  ⟨test_presented _ (by decide), by decide, by decide, by decide, by decide⟩

theorem test_witness_OtherAccessHoldsInOrder :
    let s := up.setQueue [ent 1 8 .u 0xAB00 true]
    let tg : Target := { region := 2, cs := 1, phys := 8, profile := 1 }
    s.Presented (rd 0x200010) ∧ (s.spDecoded (rd 0x200010)).target = some tg
      ∧ (s.spDecoded (rd 0x200010)).disposition = .forwardCheck ∧ (∀ w, forwardCheck s.queue tg .ul ≠ .hit w)
      ∧ ∃ e ∈ s.queue, e.cs = tg.cs ∧ e.phys = tg.phys :=
  ⟨⟨rfl, rfl, rfl, rfl, by decide⟩, by decide, by decide,
    fun w h => (nomatch (show Forward.part = .hit w from h)), by decide⟩

theorem test_witness_OtherAccessHoldsInWakeOrGrant :
    (asleep.Presented (pins true 0x400020 true true 0 true)
        ∧ (asleep.spDecoded (pins true 0x400020 true true 0 true)).disposition = .lockedRead ∧ asleep.WakeCondition 2
        ∧ ¬ ∃ e ∈ asleep.queue, e.cs = 2)
      ∧ (locked.Presented (wr 0x400040 7) ∧ (locked.spDecoded (wr 0x400040 7)).disposition = .lockedWrite ∧ ¬ locked.WakeCondition 2)
      ∧ (up.Presented (wr 0x100AAA 7) ∧ (up.spDecoded (wr 0x100AAA 7)).disposition = .strict ∧ ¬ up.WakeCondition 0) :=
  ⟨⟨⟨rfl, rfl, rfl, rfl, by decide⟩, by decide, by unfold State.WakeCondition; decide, by decide⟩,
    ⟨⟨rfl, rfl, rfl, rfl, by decide⟩, by decide, by unfold State.WakeCondition; decide⟩,
    ⟨test_presented _ (by decide), by decide, by unfold State.WakeCondition; decide⟩⟩

/-- The part of 1.7 with window 1 set to capture host word 100000h. -/
def capturing : State :=
  up.setTables { tabs with windows := tabs.windows.set 1 { enable := true, addr := 0x100000, bank := 5 } }

theorem test_witness_CaptureSetsTheBankNumber :
    capturing.Presented (wr 0x200000 0xFFFF) ∧ (capturing.spDecoded (wr 0x200000 0xFFFF)).faulted = false
      ∧ (wr 0x200000 0xFFFF).rd = false ∧ (spLanes (wr 0x200000 0xFFFF)).hasL = true
      ∧ capturing.tables.windows[(1 : Fin 4)].enable = true ∧ capturing.tables.windows[(1 : Fin 4)].addr = (wr 0x200000 0xFFFF).a
      ∧ capturing.Presented (pins false 0x200000 true false 0xFFFF false)
      ∧ (spLanes (pins false 0x200000 true false 0xFFFF false)).hasL = false :=
  ⟨⟨rfl, rfl, rfl, rfl, by decide⟩, by decide, by decide, by decide, by decide, by decide, ⟨rfl, rfl, rfl, rfl, by decide⟩, by decide⟩

theorem test_witness_NoPresentationWithoutOneStrobeOrRelease :
    ({ rd 0 with wr := true } : SpTerminals).rd = ({ rd 0 with wr := true } : SpTerminals).wr ∧ released.ce = false
      ∧ (up.setAccess (.hold .grant (dsc (rd 0)))).sp.access ≠ .idle ∧ State.reset.sp.releaseSeen = false
      ∧ (after .pinReset up).resetAsserted = true := by
  decide

theorem test_witness_OfferMergesAppendsOrHolds :
    (let e := ent 1 8 .ul 0xABCD false;
      let n := ent 1 8 .l 0x00EE false;
      e.cs = n.cs ∧ e.phys = n.phys ∧ e.onChannel = false)
      ∧ (let e := ent 1 8 .ul 0xABCD true;
        let n := ent 1 8 .l 0x00EE false;
        ¬ (e.cs = n.cs ∧ e.phys = n.phys ∧ e.onChannel = false) ∧ (fullQueue.take 14 ++ [e]).length < 16
          ∧ 16 ≤ (fullQueue.take 15 ++ [e]).length) := by
  decide

theorem test_witness_ForwardHitEqualsTheDrainedWord :
    (let t : Target := { region := 2, cs := 1, phys := 8, profile := 1 };
      (∃ e ∈ chapter3, e.cs = t.cs ∧ e.phys = t.phys ∧ Lanes.hasU e.lanes = true)
        ∧ (∃ e ∈ chapter3.tail, e.cs = t.cs ∧ e.phys = t.phys)
        ∧ (¬ ∃ e ∈ chapter3.tail, e.cs = t.cs ∧ e.phys = t.phys ∧ Lanes.hasU e.lanes = true)
        ∧ ¬ ∃ e ∈ chapter3.drop 2, e.cs = t.cs ∧ e.phys = t.phys)
      ∧ forwardCheck chapter3 { region := 2, cs := 1, phys := 8, profile := 1 } .ul = .hit 0xABEE
      ∧ drainedWord chapter3 { region := 2, cs := 1, phys := 8, profile := 1 } 0x5555 = 0xABEE := by
  decide

theorem test_witness_DrainCompletionRemovesTheHead :
    (let s := onWord (up.setQueue [ent 1 8 .ul 0x1234 true]) (ended .head .write 1 true);
      s.WordEnded (ended .head .write 1 true) .head ∧ s.queue = ent 1 8 .ul 0x1234 true :: [])
      ∧ (let d := dsc (wr 0x200010 7);
        let tg : Target := { region := 2, cs := 1, phys := 8, profile := 1 };
        d.target = some tg ∧ (offer (fullQueue.take 15) (newEntry d tg)).isSome = true ∧ offer fullQueue (newEntry d tg) = none)
      ∧ (up.sp.access = .idle ∧ (up.setAccess (.hold .wake (dsc (rd 0)))).sp.access = .hold .wake (dsc (rd 0)) ∧ up.ap.phase ≠ .order)
      ∧ (let s := up.setAccess (.hold .order (dsc (rd 0x400020)));
        (dsc (rd 0x400020)).target.map (·.cs) = some 2 ∧ s.queue = [] ∧ ¬ s.WakeCondition 2)
      ∧ (let s := asleep.setAccess (.hold .order (dsc (rd 0x400020)));
        s.queue = [] ∧ s.WakeCondition 2)
      ∧ (let s := (up.setQueue [ent 1 8 .u 0 false]).setAccess (.hold .order (dsc (rd 0x200010)));
        ∃ e ∈ s.queue, e.cs = 1 ∧ e.phys = 8)
      ∧ (let s := bursting .order;
        s.ap.phase = .order ∧ s.ap.desc = some twoWords ∧ twoWords.target.map (·.cs) = some 1 ∧ (∀ x ∈ [0], x = 0)
          ∧ ¬ s.WakeCondition 1)
      ∧ ∃ x ∈ [0, 2], x ≠ 0 :=
  ⟨⟨⟨rfl, rfl, rfl, rfl⟩, rfl⟩, by decide, by decide, ⟨by decide, rfl, by unfold State.WakeCondition; decide⟩,
    ⟨rfl, by unfold State.WakeCondition; decide⟩, by decide,
    ⟨rfl, rfl, by decide, by decide, by unfold State.WakeCondition; decide⟩, by decide⟩

theorem test_witness_AccessEndFollowsTheAccessState :
    up.resetAsserted = false ∧ (up.setAccess (.answered .abort none (dsc (rd 0)))).sp.access = .answered .abort none (dsc (rd 0))
      ∧ (up.setAccess (.hold .full (dsc (wr 0x200010 7)))).sp.access = .hold .full (dsc (wr 0x200010 7))
      ∧ (up.setAccess (.channel false (dsc (rd 0)))).sp.access = .channel false (dsc (rd 0))
      ∧ (up.setAccess (.channel true (dsc (rd 0)))).sp.access = .channel true (dsc (rd 0)) := by
  decide

theorem test_witness_LockReleaseEndsTheLock : locked.resetAsserted = false ∧ locked.sp.lock = some { cs := 2, phys := 0x060020 } := by
  decide

theorem test_witness_SystemCompletionAnswersTheAccess (late : Bool) :
    let w := ended .sp .read 1 late
    let s := onWord (up.setAccess (.channel false (dsc (rd 0x200010)))) w
    s.WordEnded w .sp ∧ s.sp.access = .channel false (dsc (rd 0x200010)) :=
  ⟨⟨rfl, rfl, rfl, rfl⟩, rfl⟩

theorem test_witness_WithdrawnCompletionAnswersNothing (again : Bool) :
    let w := ended .sp .read 1 true
    let s := (onWord (up.setAccess (.channel true (dsc (rd 0x200010)))) w)
    let s' := s.setSp { s.sp with deferred := again }
    s'.WordEnded w .sp ∧ s'.sp.access = .channel true (dsc (rd 0x200010)) ∧ s'.sp.deferred = again ∧ (rd 0).presents = true
      ∧ released.presents = false :=
  ⟨⟨rfl, rfl, rfl, rfl⟩, rfl, rfl, rfl, rfl⟩

theorem test_witness_FaultedBurstClosesWithError :
    up.ApPresented ∧ (up.apDecoded (burst false 0x43FFFC 8)).disposition = .fault .burstSplit := ⟨⟨rfl, rfl, rfl⟩, by decide⟩

theorem test_witness_BurstRequestTakesItsBarrierSet :
    (let tg : Target := { region := 2, cs := 1, phys := 8, profile := 1 };
      up.ApPresented ∧ (up.apDecoded (burst false 0x200010 8)).faulted = false
        ∧ (up.apDecoded (burst false 0x200010 8)).target = some tg ∧ barrierOf up.queue tg 8 = [] ∧ ¬ up.WakeCondition 1
        ∧ barrierOf [ent 1 7 .ul 0 false, ent 1 8 .ul 0 false, ent 1 15 .ul 0 false, ent 1 16 .ul 0 false] tg 8 = [1, 2])
      ∧ asleep.ApPresented ∧ (asleep.apDecoded (burst false 0x400020 1)).target.map (·.cs) = some 2 ∧ asleep.WakeCondition 2 :=
  ⟨⟨⟨rfl, rfl, rfl⟩, by decide, by decide, by decide, by unfold State.WakeCondition; decide, by decide⟩, ⟨rfl, rfl, rfl⟩, by decide,
    by unfold State.WakeCondition; decide⟩

theorem test_witness_WriteBeatIsTakenOrIgnored :
    (bursting .grant).resetAsserted = false ∧ (bursting .grant).ap.desc = some twoWords ∧ twoWords.burst = some 2
      ∧ twoWords.dir = .write ∧ (bursting .grant).ap.buffer.length < 2 ∧ (bursting .burst).ap.phase = .burst := by
  decide

theorem test_witness_RequestReleaseFollowsThePortState (p : ApPhase) :
    (bursting p).resetAsserted = false ∧ (bursting p).ap.phase = p ∧ (bursting p).ap.desc = some twoWords
      ∧ (bursting p).ap.closeLeft = none ∧ up.ap.phase = .idle ∧ State.reset.ap.releaseSeen = false
      ∧ (up.setAp { up.ap with phase := .closing .err, closeLeft := some 0 }).ap.closeLeft = some 0 :=
  ⟨rfl, rfl, rfl, rfl, rfl, rfl, rfl⟩

/-- A burst of two words at word `i` with setup `n` and ready mode `m`. -/
def pair (i n : Nat) (m : ReadyMode) (late : Bool) : WordTxn :=
  { ended .ap .read 1 late with count := 2, current := i, timing := { setup := n, strobe := 1, hold := 0, recovery := 0, mode := m, limit := 16 } }

theorem test_witness_BurstWordEndBeginsTheNextWord (n : Nat) (m : ReadyMode) :
    let s := onWord (bursting .burst) (pair 0 n m false)
    s.WordEnded (pair 0 n m false) .ap ∧ (pair 0 n m false).timedOut = false ∧ (pair 0 n m false).current + 1 < (pair 0 n m false).count :=
  ⟨⟨rfl, rfl, rfl, rfl⟩, rfl, by show 0 + 1 < 2; decide⟩

theorem test_witness_BurstCompletionClosesTheBurst :
    (let s := onWord (bursting .burst) (pair 1 0 .none false);
      s.WordEnded (pair 1 0 .none false) .ap ∧ s.ap.desc = some twoWords ∧ (pair 1 0 .none false).timedOut = false
        ∧ (pair 1 0 .none false).count ≤ (pair 1 0 .none false).current + 1)
      ∧ (onWord (bursting .burst) (pair 0 0 .none true)).WordEnded (pair 0 0 .none true) .ap ∧ (pair 0 0 .none true).timedOut = true :=
  ⟨⟨⟨rfl, rfl, rfl, rfl⟩, rfl, rfl, by decide⟩, ⟨rfl, rfl, rfl, rfl⟩, rfl⟩

/-- A word in phase `p` with hold `h`, recovery `r` and ready mode `m`. -/
def inPhase (p : Phase) (h r : Nat) (m : ReadyMode) : WordTxn :=
  { ended .sp .read 1 false with
    phase := p, sampleDue := true, readyCount := 16, timing := { setup := 1, strobe := 1, hold := h, recovery := r, mode := m, limit := 16 } }

theorem test_witness_PhaseEndMovesTheWordOn (p : Phase) (h r : Nat) (m : ReadyMode) :
    (onWord up (inPhase p h r m)).resetAsserted = false ∧ (onWord up (inPhase p h r m)).channel.txn = some (.word (inPhase p h r m))
      ∧ (inPhase p h r m).left = 0 ∧ (inPhase p h r m).phase = p ∧ (inPhase p h r m).timing.mode = m
      ∧ (inPhase p h r m).timing.hold = h ∧ (inPhase p h r m).timing.recovery = r
      ∧ (inPhase p h r m).count ≤ (inPhase p h r m).current + 1 :=
  ⟨rfl, rfl, rfl, rfl, rfl, rfl, rfl, by show 1 ≤ 0 + 1; decide⟩

theorem test_witness_ReadyWaitEndsHighOrAtTheLimit (h r : Nat) :
    let w := inPhase .readyWait h r .ready
    (onWord up w).channel.txn = some (.word w) ∧ w.phase = .readyWait ∧ w.sampleDue = true ∧ w.timing.hold = h ∧ w.timing.recovery = r
      ∧ w.timing.limit ≤ w.readyCount ∧ w.count ≤ w.current + 1 ∧ (pair 0 0 .ready false).current + 1 < (pair 0 0 .ready false).count :=
  ⟨rfl, rfl, rfl, rfl, rfl, Nat.le_refl 16, by show 1 ≤ 0 + 1; decide, by decide⟩

theorem test_witness_WordLengthIsTheSumOfItsPhases :
    (inPhase .setup 0 15 .none).timing.mode = .none ∧ (inPhase .setup 0 15 .none).count ≤ (inPhase .setup 0 15 .none).current + 1
      ∧ (inPhase .setup 0 15 .none).beginWord.periodsToEnd 0 22 = some 17 := by
  decide

theorem test_witness_DecisionGrantsTheHighestRank :
    (up.channel.txn = none ∧ up.requests = []) ∧ (slice2 up .warmup 8 none none).requests ≠ []
      ∧ (onWord (slice2 up .warmup 8 none none) (ended .sp .read 1 false)).channel.txn ≠ none := by
  decide

/-- The part of 1.7 with CS1 and CS2 both ACTIVE and in debt. -/
def twoSlices : State := (slice2 up .active 1 none none).setSlice 1 (act 1)

/-- The complete write burst in GRANT, its patience spent, beside an access of the System Port in GRANT. -/
def spent : State :=
  ((bursting .grant).setAp { (bursting .grant).ap with buffer := [1, 2] }).setAccess (.hold .grant (dsc (rd 0)))

theorem test_witness_TiesGoToTheLowestSliceAndSpentPatience :
    (twoSlices.requests = [(Level.sliceIdle, Request.refresh 1), (Level.sliceIdle, Request.refresh 2)])
      ∧ ((slice2 up .active 5 none none).requests = [(Level.sliceUrgent, Request.refresh 2)])
      ∧ ((up.setQueue (fullQueue.take 12)).requests = [(Level.drainPressed, Request.head (ent 1 0x10 .ul 0x1111 false))])
      ∧ ((spent.setChannel { spent.channel with patience := 4 }).requests.map (·.1) = [Level.sp, Level.sp])
      ∧ (spent.requests.map (·.1) = [Level.ap, Level.sp]) := by
  decide

theorem test_witness_TheStandingRequests :
    ((locked.setAp spent.ap).requests = [])
      ∧ ((retaining (slice2 up .active 1 none none) .draining false).requests = [(Level.sliceUrgent, Request.refresh 2)])
      ∧ (((up.setQueue [ent 1 0x10 .ul 0 false]).setAccess (.hold .order (dsc (rd 0)))).requests.map (·.1) = [Level.sp])
      ∧ (((bursting .order).setQueue [ent 1 0x10 .ul 0 false]).requests.map (·.1) = [Level.ap])
      ∧ ((up.setQueue [ent 1 0x10 .ul 0 false]).requests.map (·.1) = [Level.drainNormal])
      ∧ ((slice2 (up.setQueue [ent 2 0x10 .ul 0 false]) .self 0 none none).requests = [])
      ∧ ((retaining (up.setQueue [ent 2 0x10 .ul 0 false]) .draining true).requests = []) := by
  decide

theorem test_witness_GrantBeginsTheHoldersTransaction : (up.setQueue chapter3).queue = ent 1 8 .ul 0xABCD true :: chapter3.tail := by
  decide

theorem test_witness_RefreshCompletionPaysTheDebt (st : SliceState) (n : Nat) :
    let s := onSlice (slice2 up st n none none) .refresh
    s.SliceEnded 2 .refresh ∧ s.slices[(2 : Cs)].state = st ∧ s.slices[(2 : Cs)].debt = n :=
  ⟨⟨rfl, _, rfl, rfl, rfl, rfl⟩, rfl, rfl⟩

theorem test_witness_TimerExpiriesRaiseDebtOrEnterActive (n : Nat) :
    let s := slice2 up .active n (some 0) none
    s.resetAsserted = false ∧ s.slices[(2 : Cs)].state = .active ∧ s.slices[(2 : Cs)].interval = some 0 ∧ s.slices[(2 : Cs)].debt = n
      ∧ (slice2 up .waking 0 none (some 0)).slices[(2 : Cs)].exitTimer = some 0 :=
  ⟨rfl, rfl, rfl, rfl, rfl⟩

theorem test_witness_SelfRefreshCompletionsMoveTheSlice (st : SliceState) (op : SliceOp) :
    let s := onSlice (slice2 up st 0 none none) op
    s.SliceEnded 2 op ∧ s.slices[(2 : Cs)].state = st :=
  ⟨⟨rfl, _, rfl, rfl, rfl, rfl⟩, rfl⟩

theorem test_witness_PortsFollowTheWakeCondition :
    (dsc (rd 0x400020)).target.map (·.cs) = some 2 ∧ asleep.WakeCondition 2 ∧ ¬ up.WakeCondition 2
      ∧ (up.setAccess (.hold .wake (dsc (rd 0x400020)))).sp.access = .hold .wake (dsc (rd 0x400020))
      ∧ (bursting .wake).ap.phase = .wake ∧ (bursting .grant).ap.desc = some twoWords ∧ up.sp.access = .idle := by
  unfold State.WakeCondition
  decide

theorem test_witness_RetentionCommandsFollowTheState (r : RetState) (b : Bool) (op arg : Byte) :
    let s := framed (retaining up r b) [op, arg]
    s.AtCommit (waiting [op, arg]) [op, arg] ∧ s.retention.state = r ∧ s.retention.begun = b :=
  ⟨test_at_commit _ _ rfl, rfl, rfl⟩

theorem test_witness_RetentionSequenceBeginsAndEnds :
    (let s := retaining up .draining false;
      s.queue = [] ∧ (∀ k : Cs, s.retention.participants[k] = true → s.slices[k].state = .active ∧ s.slices[k].debt = 0)
        ∧ s.channel.txn = none)
      ∧ (let s := slice2 (retaining up .draining true) .self 0 none none;
        (∀ k : Cs, s.retention.participants[k] = true → s.slices[k].state = .self) ∧ s.participantWork = false
          ∧ (s.setQueue [ent 2 8 .ul 0 false]).participantWork = true)
      ∧ (let s := retaining up .resuming false;
        ∀ k : Cs, s.retention.participants[k] = true → s.slices[k].state = .active) := by
  decide

theorem test_witness_FramesTakeTheSummaryAndFlagShortOnes :
    (up.resetAsserted = false ∧ up.mp.mselSeen = true ∧ up.mp.frame = none ∧ State.reset.mp.mselSeen = false
        ∧ (framed up []).mp.frame = some (waiting []) ∧ (up.setQueue fullQueue).queue.length ≤ 16)
      ∧ (fresh.phase = .opcode ∧ (waiting [0x32]).phase = .argument ∧ (waiting [0x32]).received = [0x32])
      ∧ (let w := waiting (written 0x50 (pay 0 4 0 0 0 0 0 0));
        w.phase = .payload ∧ w.received.tail.length = 9 ∧ (w.received.dropLast.tail).length < 1 + 8)
      ∧ (let f := (waiting [0x20, 0x80]).perform .done [1, 2];
        f.phase = .result ∧ (f.shift 0).phase = .data ∧ (f.shift 0).data = [1, 2] ∧ (((f.shift 0).shift 0).shift 0).phase = .trailing) := by
  decide

theorem test_witness_GetSummaryReturnsTheSummary (b : Bool) (arg : Byte) :
    let s := (framed up [0x10, arg]).setMp { (framed up [0x10, arg]).mp with errorFlag := b }
    s.AtCommit (waiting [0x10, arg]) [0x10, arg] ∧ s.mp.errorFlag = b := ⟨⟨rfl, rfl, rfl, rfl⟩, rfl⟩

theorem test_witness_ReadItemReturnsTheRecord (bytes : List Byte) :
    (framed up bytes).AtCommit (waiting bytes) bytes ∧ (framed (up.setQueue chapter3) bytes).AtCommit (waiting bytes) bytes
      ∧ up.queue = [] ∧ chapter3 = ent 1 8 .ul 0xABCD true :: chapter3.tail
      ∧ itemOf 0x10 = some (.region 0) ∧ itemOf 0x1F = some (.region 15) ∧ itemOf 0x20 = some (.profile 0)
      ∧ itemOf 0x27 = some (.profile 7) ∧ itemOf 0x28 = none ∧ itemOf 0x30 = some (.chipsel 0) ∧ itemOf 0x33 = some (.chipsel 3)
      ∧ itemOf 0x34 = none ∧ itemOf 0x40 = some (.bankwin 0) ∧ itemOf 0x43 = some (.bankwin 3) ∧ itemOf 0x44 = none
      ∧ itemOf 0x50 = some .queue ∧ itemOf 0x51 = none ∧ itemOf 0x60 = some .alert ∧ itemOf 0x70 = some .retention
      ∧ itemOf 0x80 = some .ident ∧ itemOf 0x81 = none ∧ itemOf 0x90 = none ∧ itemOf 0x0F = none
      ∧ (0x99 : Byte) ∉ ([0x10, 0x20, 0x21, 0x30, 0x31, 0x32, 0x40, 0x41, 0x5A] : List Byte) :=
  ⟨test_at_commit _ _ rfl, test_at_commit _ _ rfl, by decide⟩

theorem test_witness_LegalRecordsReplaceTheItem (arg : Byte) (p : Payload) :
    (framed up (written arg p)).AtCommit (waiting (written arg p)) ([0x21, arg] ++ p.toList) ∧ (regionOf (pay 0x9C 0 0 0 0 0 3 7)).ok = true ∧ (regionOf (pay 0x9D 0 0 0 0 0 3 7)).ok = false
      ∧ (regionOf (pay 0x94 0 8 0 0 0 3 7)).ok = false ∧ (regionOf (pay 0x94 0 0 0 0 0 4 7)).ok = false
      ∧ (regionOf (pay 0x94 0 0 0 0 0 0xFF 8)).ok = false ∧ (profileOf (pay 7 31 7 15 2 3 0xFF 0)).isSome = true
      ∧ (profileOf (pay 7 32 7 15 2 3 0xFF 0)).isSome = false ∧ (profileOf (pay 7 31 7 15 3 3 0xFF 0)).isSome = false
      ∧ (profileOf (pay 7 31 7 15 2 4 0x00 0)).isSome = false ∧ (profileOf (pay 0 1 0 0 0 0 16 0)).isSome = true
      ∧ (profileOf (pay 0 0 0 0 0 0 16 0)).isSome = false ∧ (profileOf (pay 0 1 0 0 0 0 15 0)).isSome = false
      ∧ (pay 0 0 0 0 63 0 0 0)[4].toNat ≤ 63 ∧ 64 ≤ (pay 0 0 0 0 64 0 0 0)[4].toNat
      ∧ 4 ≤ (pay 0 4 0 0 0 0 0 0)[1].toNat ∧ (pay 0 16 0 0 0 0 0 0)[1].toNat ≤ 16 ∧ (pay 0 3 0 0 0 0 0 0)[1].toNat < 4
      ∧ 16 < (pay 0 17 0 0 0 0 0 0)[1].toNat :=
  ⟨test_at_commit _ _ rfl, by decide⟩

theorem test_witness_ChipSelectWriteIsCheckedAndTaken (arg : Byte) (p : Payload) :
    let check (s : State) (p : Payload) : Option Result := s.chipselCheck 2 (chipSelOf p)
    (framed up (written arg p)).AtCommit (waiting (written arg p)) ([0x21, arg] ++ p.toList) ∧ check up (pay 0xE1 0 63 4 0 16 0 0) = some .badValue
      ∧ check up (pay 0xE1 0 64 3 0 16 0 0) = some .badValue ∧ check up (pay 0xE0 0 64 4 0 16 0 0) = some .badValue
      ∧ check up (pay 0xE1 0 64 4 0 15 0 0) = some .badValue ∧ check up (pay 0xA1 0 64 4 0 16 0 0) = some .badValue
      ∧ check (up.setQueue [ent 2 8 .ul 0 false]) (pay 0x81 0 64 4 0 16 0 0) = some .wrongState
      ∧ check asleep (pay 0xC1 0 64 4 0 16 0 0) = some .wrongState ∧ check up (pay 0x81 0 64 4 0 16 0 0) = none
      ∧ check up (pay 0xC1 0 64 4 0 16 0 0) = none ∧ check up (pay 0xE1 0 64 4 0 16 0 0) = none :=
  ⟨test_at_commit _ _ rfl, by decide⟩

theorem test_witness_FaultLogCommandsReadAndClear (bytes : List Byte) :
    (framed up bytes).AtCommit (waiting bytes) bytes ∧ (framed up bytes).faults.log = []
      ∧ ((framed up bytes).deliver (overrunOccurrence 2)).AtCommit (waiting bytes) bytes
      ∧ ((framed up bytes).deliver (overrunOccurrence 2)).faults.log = { serial := 0, occ := overrunOccurrence 2 } :: [] :=
  ⟨test_at_commit _ _ rfl, rfl, ⟨rfl, rfl, rfl, rfl⟩, rfl⟩

theorem test_witness_ConfigResetNeedsAQuietPart :
    (framed up [0x5A, 0]).AtCommit (waiting [0x5A, 0]) [0x5A, 0] ∧ up.quiescent = true ∧ (up.setQueue chapter3).quiescent = false
      ∧ (onSlice up .refresh).quiescent = false ∧ (up.setAccess (.hold .wake (dsc (rd 0)))).quiescent = false
      ∧ (bursting .order).quiescent = false ∧ (retaining up .draining false).quiescent = false :=
  ⟨test_at_commit _ _ rfl, by decide⟩

theorem test_witness_RecordsReadBackAsWritten :
    (act 8).debt ≤ 8 ∧ (profileOf (pay 7 31 7 15 2 3 0xFF 0xFF)).isSome = true ∧ (windowOf (pay 0xFF 0xFF 0 0 63 0 0 0)).isSome = true := by
  decide

theorem test_witness_OccurrenceTakesTheNextSerial :
    (List.replicate 7 ({ serial := 0, occ := overrunOccurrence 2 } : FaultRecord)).length < 8
      ∧ 8 ≤ (List.replicate 8 ({ serial := 0, occ := overrunOccurrence 2 } : FaultRecord)).length := by
  decide

/-- A posting state that has every invariant: a head on the channel, an access in WAKE, CS2 in SELF. -/
def busy : State :=
  (onWord (asleep.setQueue [ent 1 8 .ul 0x1234 true]) (ended .head .write 1 false)).setAccess (.hold .order (dsc (rd 0x200010)))

theorem test_witness_FrameSound :
    (framed up (written 0x50 (pay 0 4 0 0 0 0 0 0))).FrameSound ∧ (framed up [0x10]).FrameSound ∧ busy.FrameSound := by
  refine ⟨fun f h => ?_, fun f h => ?_, fun f h => ?_⟩
  · obtain rfl : waiting (written 0x50 (pay 0 4 0 0 0 0 0 0)) = f := Option.some.inj h
    exact ⟨rfl, by decide, rfl⟩
  · obtain rfl : waiting [0x10] = f := Option.some.inj h
    exact ⟨rfl, rfl⟩
  · exact nomatch (show (none : Option Frame) = some f from h)

theorem test_witness_OutputTerminals :
    (onWord up (inPhase .hold 1 1 .none)).channel.word = some (inPhase .hold 1 1 .none)
      ∧ (let w := { inPhase .strobe 1 1 .none with dir := .write, lanes := .u };
        w.data[w.current]? = some 0x1234 ∧ (onWord up w).channel.terminals.md = some 0x12FF)
      ∧ (pair 0 0 .none false).current + 1 < (pair 0 0 .none false).count
      ∧ (bursting .burst).ap.beat = none ∧ (bursting .burst).ap.axOut = .released
      ∧ (framed up [0x10]).mso = some 0 ∧ up.mso = none ∧ (after .pinReset up).mso = none := by
  decide

theorem test_witness_StepKeepsCountsTablesAndSlicesInRange :
    busy.CountsInRange ∧ busy.tables.Sound ∧ (∀ k : Cs, busy.slices[k].Sound) ∧ step busy = .next busy := by
  refine ⟨by unfold State.CountsInRange; decide, ?_, ?_, rfl⟩
  · unfold Tables.Sound Region.Sound ChipSel.Sound Profile.Sound
    decide
  · unfold Slice.Sound
    decide

theorem test_witness_StepKeepsQueueOnPostingChipSelects : busy.QueueTargetsPosting := by
  unfold State.QueueTargetsPosting CsClass.posts
  decide

theorem test_witness_StepLeavesNoRequestAtAFreeChannel : up.NoRequestAtFreeChannel ∧ up.channel.txn = none ∧ busy.NoRequestAtFreeChannel := by
  unfold State.NoRequestAtFreeChannel
  decide

theorem test_witness_StepKeepsTheLockedChipSelectUnqueued :
    (locked.setQueue [ent 1 8 .ul 0 false]).LockClearsQueue := by
  unfold State.LockClearsQueue
  decide

theorem test_witness_StepKeepsHoldersAndBurstSound :
    busy.HolderAgrees ∧ busy.BurstSound ∧ (onWord (bursting .burst) (pair 0 0 .none false)).HolderAgrees
      ∧ (onWord (bursting .burst) (pair 0 0 .none false)).BurstSound := by
  refine ⟨by unfold State.HolderAgrees; decide, ?_, by unfold State.HolderAgrees; decide, ?_⟩
  · unfold State.BurstSound
    refine ⟨by decide, fun d h => (nomatch (show (none : Option Descriptor) = some d from h)), by decide, by decide⟩
  · unfold State.BurstSound
    refine ⟨by decide, fun d h => ⟨2, ?_⟩, by decide, by decide⟩
    obtain rfl : twoWords = d := Option.some.inj h
    decide

theorem test_witness_NoWordOnTheChannelWhileAsleep : busy.NoWordWhileAsleep ∧ busy.slices[(2 : Cs)].state.wakes = true := by
  unfold State.NoWordWhileAsleep
  decide

theorem test_witness_RetainedPartIsParked : asleep.RetentionSound ∧ asleep.retention.state = .retained := by
  refine ⟨⟨fun k => ?_, by decide, by decide, by decide, by decide⟩, rfl⟩
  match k with
  | 0 => show asleep.slices[0].state = .off; decide
  | 1 => show asleep.slices[1].state = .off; decide
  | 2 => show asleep.slices[2].state = .self ∧ asleep.retention.issued[2] = none; decide
  | 3 => show asleep.slices[3].state = .off; decide

end Sys2Proof.Tests
end

/-! ## The ranges that every step keeps (O54)

`State.Bounded` groups the counts, the legality of the tables and the soundness of the slices into one invariant, with one lemma per
operation of the model; a command's proof then follows the composition of its meaning. -/

namespace Sys2Proof.Machine

/-! ### The invariant -/

/-- The log and the dropped count are within their ranges (R161). -/
def FaultUnit.Bounded (f : FaultUnit) : Prop := f.log.length ≤ 8 ∧ f.dropped ≤ 255

/-- The tables hold legal records and the watermark is 4 to 16 (R18, R42, R118, R124). -/
def Tables.Legal (t : Tables) : Prop := t.Sound ∧ 4 ≤ t.watermark ∧ t.watermark ≤ 16

/-- The first invariant of O54, by the block that carries each part. -/
structure State.Bounded (s : State) : Prop where
  queue : s.queue.length ≤ 16
  faults : s.faults.Bounded
  patience : s.channel.patience ≤ 4
  tables : s.tables.Legal
  slices : ∀ k : Cs, s.slices[k].Sound

theorem State.bounded_iff (s : State) :
    s.Bounded ↔ s.CountsInRange ∧ s.tables.Sound ∧ ∀ k : Cs, s.slices[k].Sound := by
  constructor
  · rintro ⟨hq, ⟨hl, hd⟩, hp, ⟨ht, hw, hw'⟩, hs⟩
    exact ⟨⟨hq, hl, hd, hp, hw, hw'⟩, ht, hs⟩
  · rintro ⟨⟨hq, hl, hd, hp, hw, hw'⟩, ht, hs⟩
    exact ⟨hq, ⟨hl, hd⟩, hp, ⟨ht, hw, hw'⟩, hs⟩

/-- A property of every place of a vector stays when one place is replaced by a value that has it. -/
theorem forall_getElem_set {α : Type} {n : Nat} {P : α → Prop} {v : Vector α n} (h : ∀ j : Fin n, P v[j]) (i : Fin n) {x : α}
    (hx : P x) (j : Fin n) : P (v.set i x)[j] := by
  rw [Fin.getElem_fin, Vector.getElem_set]
  split
  · exact hx
  · exact h j

/-! ### The fault unit -/

theorem FaultUnit.Bounded.take {f : FaultUnit} (h : f.Bounded) (o : Occurrence) : (f.take o).Bounded := by
  refine ⟨f.take_log_length o h.1, ?_⟩
  unfold FaultUnit.take
  dsimp only
  split
  · exact h.2
  · exact Nat.min_le_left _ _

theorem FaultUnit.Bounded.setRetain {f : FaultUnit} (h : f.Bounded) : f.setRetain.Bounded := h

theorem FaultUnit.Bounded.clearCauses {f : FaultUnit} (h : f.Bounded) (mask : Byte) : (f.clearCauses mask).Bounded := by
  refine ⟨h.1, ?_⟩
  unfold FaultUnit.clearCauses
  dsimp only
  split
  · exact Nat.zero_le _
  · exact h.2

/-! ### The slices -/

theorem Slice.Sound.toOff {sl : Slice} : sl.toOff.Sound := by
  simp [Slice.Sound, Slice.toOff]

theorem Slice.Sound.toWarmup {sl : Slice} : sl.toWarmup.Sound := by
  simp [Slice.Sound, Slice.toWarmup]

theorem Slice.Sound.toActive {sl : Slice} (c : ChipSel) : (sl.toActive c).Sound := by
  simp [Slice.Sound, Slice.toActive, Slice.startInterval]

theorem Slice.Sound.reset : Slice.reset.Sound := by
  simp [Slice.Sound, Slice.reset]

/-- Stopping the interval timer keeps a slice sound (R145). -/
theorem Slice.Sound.stopInterval {sl : Slice} (h : sl.Sound) : Slice.Sound { sl with interval := none } := by
  obtain ⟨hdebt, hzero, -, hexit⟩ := h
  exact ⟨hdebt, hzero, by simp, hexit⟩

/-- A CK period changes the counts of the timers that run, and starts and stops none. -/
theorem Slice.Sound.period {sl : Slice} (h : sl.Sound) : sl.period.Sound := by
  obtain ⟨hdebt, hzero, hint, hexit⟩ := h
  exact ⟨hdebt, hzero, by simpa [Slice.period] using hint, by simpa [Slice.period] using hexit⟩

theorem Slice.Sound.refreshed {sl : Slice} (h : sl.Sound) (c : ChipSel) : (sl.refreshed c).Sound := by
  obtain ⟨hdebt, hzero, hint, hexit⟩ := h
  have pay (hs : ¬(sl.state = .off ∨ sl.state = .self ∨ sl.state = .waking)) : Slice.Sound { sl with debt := sl.debt - 1 } :=
    ⟨(Nat.sub_le _ _).trans hdebt, fun h => absurd h hs, hint, hexit⟩
  unfold Slice.refreshed
  split
  · rename_i hs
    exact pay (by simp [hs])
  · rename_i hs
    split
    · exact .toActive c
    · exact pay (by simp [hs])
  · exact ⟨hdebt, hzero, hint, hexit⟩

theorem Slice.Sound.entered {sl : Slice} (h : sl.Sound) : sl.entered.Sound := by
  unfold Slice.entered
  split
  · simp [Slice.Sound]
  · exact h

theorem Slice.Sound.exited {sl : Slice} (h : sl.Sound) (c : ChipSel) : (sl.exited c).Sound := by
  unfold Slice.exited
  split
  · simp [Slice.Sound]
  · exact h

/-- The interval timer of an ACTIVE slice starts again with a debt of at most 8 (R137, R138). -/
theorem Slice.Sound.restarted {sl : Slice} (h : sl.Sound) (hs : sl.state = .active) (c : ChipSel) {n : Nat} (hn : n ≤ 8) :
    Slice.Sound { sl.startInterval c with debt := n } := by
  obtain ⟨-, -, -, hexit⟩ := h
  exact ⟨hn, by simp [Slice.startInterval, hs], fun _ => hs, hexit⟩

/-! ### The tables -/

theorem Tables.reset_legal : Tables.reset.Legal := by
  unfold Tables.Legal Tables.Sound Region.Sound ChipSel.Sound Profile.Sound
  decide

theorem Tables.Legal.capture {t : Tables} (h : t.Legal) (d : Descriptor) : (t.capture d).Legal := by
  simpa [Tables.Legal, Tables.Sound] using h

theorem Tables.Legal.setRegion {t : Tables} (h : t.Legal) (i : Fin 16) {r : Region} (hr : r.Sound) :
    Tables.Legal { t with regions := t.regions.set i r } := by
  obtain ⟨⟨hreg, hcs, hprof⟩, hw⟩ := h
  exact ⟨⟨forall_getElem_set hreg i hr, hcs, hprof⟩, hw⟩

theorem Tables.Legal.setChipsel {t : Tables} (h : t.Legal) (k : Cs) {c : ChipSel} (hc : c.Sound) :
    Tables.Legal { t with chipsels := t.chipsels.set k c } := by
  obtain ⟨⟨hreg, hcs, hprof⟩, hw⟩ := h
  exact ⟨⟨hreg, forall_getElem_set hcs k hc, hprof⟩, hw⟩

theorem Tables.Legal.setProfile {t : Tables} (h : t.Legal) (i : Fin 8) {p : Profile} (hp : p.Sound) :
    Tables.Legal { t with profiles := t.profiles.set i p } := by
  obtain ⟨⟨hreg, hcs, hprof⟩, hw⟩ := h
  exact ⟨⟨hreg, hcs, forall_getElem_set hprof i hp⟩, hw⟩

theorem Tables.Legal.setWindow {t : Tables} (h : t.Legal) (k : Fin 4) (x : Window) :
    Tables.Legal { t with windows := t.windows.set k x } := h

theorem Tables.Legal.setWatermark {t : Tables} (h : t.Legal) {n : Nat} (hn : 4 ≤ n ∧ n ≤ 16) :
    Tables.Legal { t with watermark := n } := ⟨h.1, hn⟩

/-- The four checks of R18 are those of a sound region. -/
theorem Region.ok_iff (r : Region) :
    r.ok = true ↔ r.sizeCode.toNat ≤ 12 ∧ r.base.toNat % 2 ^ r.sizeCode.toNat = 0
      ∧ (r.window.toNat ≤ 3 ∨ r.window = 0xFF) ∧ r.profile.toNat ≤ 7 := by
  simp [Region.ok, Region.units, and_assoc, Nat.lt_succ_iff]

/-- WRITE_REGION refuses exactly the records that are not sound (R18). -/
theorem Region.refused_iff (r : Region) : (r.valid && !r.ok) = true ↔ ¬ r.Sound := by
  rw [Region.Sound, ← Region.ok_iff, Bool.and_eq_true, Bool.not_eq_true', Classical.not_imp, Bool.not_eq_true]

/-- A profile record that is accepted is sound (R124). -/
theorem Profile.sound_of_profileOf {p : Payload} {x : Profile} (h : profileOf p = some x) : x.Sound := by
  unfold profileOf at h
  split at h
  · cases h
  · dsimp only at h
    split at h
    · rename_i hr
      cases h
      obtain ⟨h0, h1, h1', h2, h3, h5, h5'⟩ := hr
      exact ⟨h0, h1, h1', h2, h3, h5, h5'⟩
    · cases h

/-- A chip-select record that passes checks 1 and 2 of R119 is sound; the upper bounds hold by the fields' widths. -/
theorem ChipSel.sound_of_inRange {p : Payload} (h : (chipSelOf p).inRange = true)
    (he : ((chipSelOf p).enable && (chipSelOf p).cls != .dram) = false) : (chipSelOf p).Sound := by
  simp only [ChipSel.inRange, Bool.and_eq_true, decide_eq_true_eq] at h
  obtain ⟨⟨⟨hint, hcyc⟩, hthr⟩, hexit⟩ := h
  have hint' : (chipSelOf p).interval < 65536 := (halfOf p[1] p[2]).isLt
  have hcyc' : (chipSelOf p).cycle < 256 := p[3].isLt
  have hthr' : (chipSelOf p).threshold < 8 := (p[0].extractLsb' 0 3).isLt
  have hexit' : (chipSelOf p).exitTime < 65536 := (halfOf p[4] p[5]).isLt
  refine ⟨hint, by omega, hcyc, by omega, hthr, by omega, hexit, by omega, fun hen => ?_⟩
  simpa [hen] using he

/-- A descriptor that passes every check of R119 is sound. -/
theorem ChipSel.sound_of_chipselCheck {s : State} {k : Cs} {p : Payload} (h : s.chipselCheck k (chipSelOf p) = none) :
    (chipSelOf p).Sound := by
  unfold State.chipselCheck at h
  dsimp only at h
  split at h
  · cases h
  · rename_i hr
    split at h
    · cases h
    · rename_i he
      exact ChipSel.sound_of_inRange (by simpa using hr) (by simpa using he)

end Sys2Proof.Machine

namespace Sys2Proof.Machine

/-! ### One lemma per operation of the state

An operation that leaves the queue, the log, the patience count, the tables and the slices as they are keeps the ranges. -/

namespace State.Bounded

variable {s : State}

theorem of_eq {s' : State} (h : s.Bounded) (hq : s'.queue = s.queue) (hf : s'.faults = s.faults)
    (hp : s'.channel.patience = s.channel.patience) (ht : s'.tables = s.tables) (hs : s'.slices = s.slices) : s'.Bounded := by
  obtain ⟨h1, h2, h3, h4, h5⟩ := h
  exact ⟨hq ▸ h1, hf ▸ h2, hp ▸ h3, ht ▸ h4, hs ▸ h5⟩

/-! #### Updates -/

theorem setSp (h : s.Bounded) (x : SysPort) : (s.setSp x).Bounded := h.of_eq rfl rfl rfl rfl rfl

theorem setAp (h : s.Bounded) (x : AuxPort) : (s.setAp x).Bounded := h.of_eq rfl rfl rfl rfl rfl

theorem setAccess (h : s.Bounded) (a : SpAccess) : (s.setAccess a).Bounded := h.of_eq rfl rfl rfl rfl rfl

theorem setApPhase (h : s.Bounded) (p : ApPhase) : (s.setApPhase p).Bounded := h.of_eq rfl rfl rfl rfl rfl

theorem setRetention (h : s.Bounded) (x : Retention) : (s.setRetention x).Bounded := h.of_eq rfl rfl rfl rfl rfl

theorem setMp (h : s.Bounded) (x : MgmtPort) : (s.setMp x).Bounded := h.of_eq rfl rfl rfl rfl rfl

theorem setTxn (h : s.Bounded) (t : Option Txn) : (s.setTxn t).Bounded := h.of_eq rfl rfl rfl rfl rfl

theorem draw (h : s.Bounded) : s.draw.Bounded := h.of_eq rfl rfl rfl rfl rfl

theorem endLock (h : s.Bounded) : s.endLock.Bounded := h.of_eq rfl rfl rfl rfl rfl

theorem depart (h : s.Bounded) (k : Cs) : (s.depart k).Bounded := h.of_eq rfl rfl rfl rfl rfl

theorem enterResuming (h : s.Bounded) : s.enterResuming.Bounded := h.of_eq rfl rfl rfl rfl rfl

theorem beginWord (h : s.Bounded) (x : WordHolder) (dir : Direction) (t : Target) (n : Nat) (m : Lanes) (data : List BusWord) :
    (s.beginWord x dir t n m data).Bounded := h.of_eq rfl rfl rfl rfl rfl

theorem beginSlice (h : s.Bounded) (k : Cs) (op : SliceOp) : (s.beginSlice k op).Bounded := h.of_eq rfl rfl rfl rfl rfl

theorem setQueue (h : s.Bounded) {q : List Entry} (hq : q.length ≤ 16) : (s.setQueue q).Bounded := { h with queue := hq }

theorem setFaults (h : s.Bounded) {f : FaultUnit} (hf : f.Bounded) : (s.setFaults f).Bounded := { h with faults := hf }

theorem setChannel (h : s.Bounded) {c : Channel} (hc : c.patience ≤ 4) : (s.setChannel c).Bounded := { h with patience := hc }

theorem setTables (h : s.Bounded) {t : Tables} (ht : t.Legal) : (s.setTables t).Bounded := { h with tables := ht }

theorem setSlices (h : s.Bounded) {v : Vector Slice 4} (hv : ∀ k : Cs, v[k].Sound) : (s.setSlices v).Bounded :=
  { h with slices := hv }

theorem setSlice (h : s.Bounded) (k : Cs) {x : Slice} (hx : x.Sound) : (s.setSlice k x).Bounded :=
  { h with slices := forall_getElem_set h.slices k hx }

theorem deliver (h : s.Bounded) (o : Occurrence) : (s.deliver o).Bounded := h.setFaults (h.faults.take o)

/-! #### The wake condition and the Retention Controller -/

theorem rewakeSp (h : s.Bounded) : s.rewakeSp.Bounded := by
  unfold State.rewakeSp
  split
  · split
    · exact h
    · exact h.setAccess _
  · split
    · exact h.setAccess _
    · exact h
  · exact h

theorem rewakeAp (h : s.Bounded) : s.rewakeAp.Bounded := by
  unfold State.rewakeAp
  split
  · split
    · exact h
    · exact h.setApPhase _
  · split
    · exact (h.setApPhase _).setChannel (Nat.zero_le _)
    · exact h
  · exact h

theorem rewake (h : s.Bounded) : s.rewake.Bounded := h.rewakeSp.rewakeAp

theorem sequenceBegin (h : s.Bounded) : s.sequenceBegin.Bounded := by
  unfold State.sequenceBegin
  split
  · exact h.setRetention _
  · exact h

theorem sequenceEnd (h : s.Bounded) : s.sequenceEnd.Bounded := by
  unfold State.sequenceEnd
  split
  · split
    · exact h.enterResuming
    · exact (h.setRetention _).setFaults h.faults.setRetain
  · exact h

theorem resumeEnd (h : s.Bounded) : s.resumeEnd.Bounded := by
  unfold State.resumeEnd
  split
  · exact (h.setRetention _).setFaults h.faults.setRetain
  · exact h

theorem settle (h : s.Bounded) : s.settle.Bounded := h.rewake.sequenceBegin.rewake.sequenceEnd.resumeEnd.rewake

theorem autoResume (h : s.Bounded) (d : Descriptor) : (s.autoResume d).Bounded := by
  unfold State.autoResume
  split
  · exact h.enterResuming
  · exact h

/-! #### The Arbiter -/

/-- A grant of the System Port's access leaves the patience count at 4 or below (R108). -/
theorem patienceAfterSp (h : s.Bounded) : s.patienceAfterSp ≤ 4 := by
  unfold State.patienceAfterSp
  split
  · exact Nat.min_le_left _ _
  · exact h.patience

theorem grant (h : s.Bounded) (r : Request) : (s.grant r).Bounded := by
  match r with
  | .refresh k => exact h.beginSlice k _
  | .command k .enter => exact (h.setSlice k (h.slices k).stopInterval).beginSlice k _
  | .command k .exit => exact h.beginSlice k _
  | .ap d t => exact ((h.setApPhase _).setChannel (Nat.zero_le _)).beginWord ..
  | .sp d t => exact ((h.setAccess _).setChannel h.patienceAfterSp).beginWord ..
  | .head e => exact (h.setQueue (by simpa using h.queue)).beginWord ..

theorem decide (h : s.Bounded) : s.decide.Bounded := by
  unfold State.decide
  split
  · exact h
  · split
    · exact h.grant _
    · exact h

theorem conclude (h : s.Bounded) : s.conclude.Bounded := h.settle.decide

/-! #### The System Port -/

theorem spWakeCheck (h : s.Bounded) (d : Descriptor) : (s.spWakeCheck d).Bounded := h.setAccess _

theorem offerPosted (h : s.Bounded) (d : Descriptor) (t : Target) : (s.offerPosted d t).Bounded := by
  unfold State.offerPosted
  split
  · rename_i q hq
    exact (h.setQueue (offer_length_le _ _ _ hq h.queue)).setAccess _
  · exact h.setAccess _

theorem placeSp (h : s.Bounded) (d : Descriptor) : (s.placeSp d).Bounded := by
  unfold State.placeSp
  split
  · exact h.offerPosted _ _
  · split
    · exact h.setAccess _
    · exact h.spWakeCheck _

theorem handOnSp (h : s.Bounded) (d : Descriptor) : (s.handOnSp d).Bounded := by
  unfold State.handOnSp
  split
  · exact h.setAccess _
  · exact (h.placeSp d).autoResume d

theorem presentSp (h : s.Bounded) (t : SpTerminals) : (s.presentSp t).Bounded := by
  rw [State.presentSp_eq]
  split
  · exact (h.endLock.deliver _).setAccess _
  · exact (h.setTables (h.tables.capture _)).handOnSp _
  · exact (h.endLock.setTables (h.tables.capture _)).handOnSp _

theorem completeSp (h : s.Bounded) (w : WordTxn) (withdrawn : Bool) (d : Descriptor) (t : SpTerminals) :
    (s.completeSp w withdrawn d t).Bounded := by
  have hd : (if w.timedOut then s.deliver (d.spOccurrence .deviceTimeout) else s).Bounded := by
    split
    · exact h.deliver _
    · exact h
  unfold State.completeSp
  dsimp only
  generalize (if w.timedOut then s.deliver (d.spOccurrence .deviceTimeout) else s) = x at hd ⊢
  split
  · split
    · exact ((hd.setSp _).setSp _).presentSp t
    · exact (hd.setSp _).setSp _
  · split
    · exact (hd.setSp _).setAccess _
    · exact (hd.setSp _).setAccess _

theorem endAccess (h : s.Bounded) : s.endAccess.Bounded := by
  unfold State.endAccess
  split
  · exact h
  · exact h.setAccess _
  · dsimp only
    split
    · exact ((h.deliver _).endLock.setAccess _).decide
    · exact ((h.deliver _).setAccess _).decide
  · exact h.setAccess _
  · exact h.setSp _

/-! #### The Auxiliary Port -/

theorem apWakeCheck (h : s.Bounded) (d : Descriptor) : (s.apWakeCheck d).Bounded := h.setApPhase _

theorem takeBeat (h : s.Bounded) (b : BusWord) : (s.takeBeat b).Bounded := by
  unfold State.takeBeat
  split
  · exact h.setAp _
  · exact h

theorem presentAp (h : s.Bounded) (t : ApTerminals) : (s.presentAp t).Bounded := by
  have waits (x : AuxPort) (b : List Nat) (d : Descriptor) :
      (if b.isEmpty then (s.setAp x).apWakeCheck d else s.setAp x).Bounded := by
    split
    · exact (h.setAp x).apWakeCheck d
    · exact h.setAp x
  unfold State.presentAp
  dsimp only
  split
  · exact (h.setAp _).deliver _
  · exact h
  · split
    · exact ((waits _ _ _).autoResume _).takeBeat _
    · exact (waits _ _ _).autoResume _

theorem withdrawAp (h : s.Bounded) : s.withdrawAp.Bounded := by
  unfold State.withdrawAp
  dsimp only
  split
  · exact ((h.deliver _).setAp _).setChannel (Nat.zero_le _)
  · exact (h.setAp _).setChannel (Nat.zero_le _)

theorem releaseAxReq (h : s.Bounded) : s.releaseAxReq.Bounded := by
  have hr : (s.setAp { s.ap with axReq := false }).Bounded := h.setAp _
  unfold State.releaseAxReq
  dsimp only
  split
  · exact hr.setAp _
  · exact hr.withdrawAp
  · exact hr.withdrawAp
  · exact hr.withdrawAp
  · exact hr
  · split
    · exact hr
    · exact hr.setAp _

theorem completeAp (h : s.Bounded) (w : WordTxn) : (s.completeAp w).Bounded := by
  unfold State.completeAp
  dsimp only
  split
  · split
    · exact (h.deliver _).setAp _
    · exact h.setAp _
  · exact h.setAp _

/-! #### Removal of the head -/

theorem releaseSp (h : s.Bounded) : s.releaseSp.Bounded := by
  unfold State.releaseSp
  split
  · split
    · exact h.offerPosted _ _
    · exact h
  · split
    · exact h
    · exact (h.spWakeCheck _).autoResume _
  · exact h

theorem releaseAp (h : s.Bounded) : s.releaseAp.Bounded := by
  unfold State.releaseAp
  split
  · dsimp only
    split
    · exact ((h.setAp _).apWakeCheck _).autoResume _
    · exact h.setAp _
  · exact h

theorem removeHead (h : s.Bounded) {e : Entry} {rest : List Entry} (hq : s.queue = e :: rest) (timedOut : Bool) :
    (s.removeHead e rest timedOut).Bounded := by
  have hrest : (s.setQueue rest).Bounded := h.setQueue (by
    have := h.queue
    rw [hq, List.length_cons] at this
    omega)
  unfold State.removeHead
  dsimp only
  split
  · exact (hrest.deliver _).releaseSp.releaseAp
  · exact hrest.releaseSp.releaseAp

/-! #### The Channel Sequencer, commits and time -/

theorem wordEvent (h : s.Bounded) (f : WordTxn → Option WordTxn) : (s.wordEvent f).Bounded := by
  unfold State.wordEvent
  split
  · split
    · exact h.setTxn _
    · exact h
  · exact h

theorem commit (h : s.Bounded) (bytes : List Byte) {r : Reply} (hr : r.state.Bounded) : (s.commit bytes r).Bounded := by
  unfold State.commit
  split
  · exact hr.setMp _
  · exact h

theorem period (h : s.Bounded) : s.period.Bounded :=
  { queue := h.queue
    faults := h.faults
    patience := h.patience
    tables := h.tables
    slices := fun k => by simpa [State.period] using (h.slices k).period }

theorem idleStep (h : s.Bounded) : s.idleStep.Bounded := by
  unfold State.idleStep
  split
  · exact h
  · exact h.period

end State.Bounded

/-! ### The replies of the Management Port's commands -/

@[simp] theorem Reply.done_state (s : State) (data : List Byte) : (Reply.done s data).state = s := rfl

section Replies

variable {s : State}

theorem itemReply_bounded (h : s.Bounded) (i : Item) : (itemReply s i).state.Bounded := by
  cases i
  case queue =>
    unfold itemReply
    dsimp only
    split
    · exact h.draw
    · exact h
  all_goals exact h

theorem summaryReply_bounded (h : s.Bounded) : (summaryReply s).state.Bounded := by
  unfold summaryReply
  split
  · exact h.draw
  · exact h

theorem regionReply_bounded (h : s.Bounded) (i : Fin 16) (r : Region) : (regionReply s i r).state.Bounded := by
  unfold regionReply
  split
  · exact h
  · rename_i hr
    exact h.setTables (h.tables.setRegion i (not_not.1 (mt r.refused_iff.2 hr)))

theorem profileReply_bounded (h : s.Bounded) (i : Fin 8) (p : Payload) : (profileReply s i (profileOf p)).state.Bounded := by
  cases hp : profileOf p with
  | none => exact h
  | some x => exact h.setTables (h.tables.setProfile i (Profile.sound_of_profileOf hp))

theorem bankwinReply_bounded (h : s.Bounded) (k : Fin 4) (x : Option Window) : (bankwinReply s k x).state.Bounded := by
  cases x with
  | none => exact h
  | some x => exact h.setTables (h.tables.setWindow k x)

theorem watermarkReply_bounded (h : s.Bounded) (n : Nat) : (watermarkReply s n).state.Bounded := by
  unfold watermarkReply
  split
  · rename_i hn
    exact h.setTables (h.tables.setWatermark hn)
  · exact h

theorem State.Bounded.sliceEffects (h : s.Bounded) (k : Cs) (old new : ChipSel) : (s.sliceEffects k old new).Bounded := by
  unfold State.sliceEffects
  split
  · exact (h.setSlice k .toOff).depart k
  · split
    · exact h.setSlice k .toWarmup
    · exact (h.setSlice k .toOff).depart k
    · exact h

theorem chipselReply_bounded (h : s.Bounded) (k : Cs) (p : Payload) : (chipselReply s k (chipSelOf p)).state.Bounded := by
  unfold chipselReply
  split
  · exact h
  · rename_i hc
    rw [Reply.done_state]
    exact ((h.setTables (h.tables.setChipsel k (ChipSel.sound_of_chipselCheck hc))).sliceEffects k _ _).conclude

theorem enterReply_bounded (h : s.Bounded) : (enterReply s).state.Bounded := by
  unfold enterReply
  split
  · rw [Reply.done_state]
    exact (h.setRetention _).conclude
  all_goals exact h

theorem exitReply_bounded (h : s.Bounded) : (exitReply s).state.Bounded := by
  unfold exitReply
  split
  · exact h
  · split
    · exact h
    · exact h.setRetention _
  · rw [Reply.done_state]
    exact h.enterResuming.conclude
  · exact h

theorem configResetReply_bounded (h : s.Bounded) : (configResetReply s).state.Bounded := by
  unfold configResetReply
  split
  · refine (h.setTables Tables.reset_legal).setSlices fun k => ?_
    rw [Fin.getElem_fin, Vector.getElem_replicate]
    exact .reset
  · exact h

theorem popFault_bounded (h : s.Bounded) : (s.setFaults { s.faults with log := s.faults.log.tail }).Bounded :=
  h.setFaults ⟨(List.tail_sublist _).length_le.trans h.faults.1, h.faults.2⟩

end Replies

end Sys2Proof.Machine

namespace Sys2Proof.Machine

/-! ### Every command keeps the ranges -/

theorem State.reset_bounded : State.reset.Bounded :=
  { queue := Nat.zero_le _
    faults := ⟨Nat.zero_le _, Nat.zero_le _⟩
    patience := Nat.zero_le _
    tables := Tables.reset_legal
    slices := fun k => by
      simpa [State.reset] using Slice.Sound.reset }

/-- Every command keeps the ranges. -/
theorem exec_keeps_bounded (c : Instr) {s s' : State} (h : s.Bounded) (hx : exec c s = .next s') : s'.Bounded := by
  cases c <;> injection hx with hx <;> subst hx
  case spPresentation t =>
    split
    · exact (h.presentSp t).decide
    · exact h
  case spAccessEnd =>
    split
    · exact h
    · exact h.endAccess
  case deferredPresentation =>
    split
    · exact h
    · split
      · exact h.setSp _
      · exact h
  case lockNRelease =>
    split
    · exact h
    · exact h.endLock.decide
  case spReleaseSeen =>
    split
    · exact h
    · exact h.setSp _
  case apPresentation t =>
    split
    · exact (h.presentAp t).decide
    · split
      · exact h
      · exact h.setAp _
  case writeBeat d =>
    split
    · exact (h.takeBeat d).decide
    · exact h
  case axReqRelease =>
    split
    · exact h
    · exact h.releaseAxReq
  case closingPeriodEnd =>
    split
    · exact h
    · split
      · exact h.setAp _
      · exact h
  case phaseEnd md => exact h.wordEvent _
  case mrdyReady md => exact h.wordEvent _
  case readyLimitExceeded => exact h.wordEvent _
  case spTransactionCompletion t =>
    split
    · split
      · exact ((h.setTxn none).completeSp _ _ _ t).conclude
      · exact h
    · exact h
  case drainCompletion =>
    split
    · rename_i w e rest _ hq
      split
      · exact ((h.setTxn none).removeHead hq w.timedOut).conclude
      · exact h
    · exact h
  case burstWordEnd =>
    split
    · split
      · exact (h.setAp _).setChannel h.patience
      · exact h
    · exact h
  case burstCompletion =>
    split
    · split
      · exact ((h.setTxn none).completeAp _).conclude
      · exact h
    · exact h
  case refreshCompletion =>
    split
    · exact ((h.setTxn none).setSlice _ ((h.slices _).refreshed _)).conclude
    · exact h
  case selfEnterCompletion =>
    split
    · exact (((h.setTxn none).setSlice _ (h.slices _).entered).setRetention _).conclude
    · exact h
  case selfExitCompletion =>
    split
    · exact (((h.setTxn none).setSlice _ ((h.slices _).exited _)).setRetention _).conclude
    · exact h
  case intervalExpiry k =>
    dsimp only
    split
    · rename_i hk
      split
      · rename_i hdebt
        exact (h.setSlice k ((h.slices k).restarted hk.2.1 _ hdebt)).decide
      · exact ((h.setSlice k ((h.slices k).restarted hk.2.1 _ (h.slices k).1)).deliver _).decide
    · exact h
  case exitTimerExpiry k =>
    dsimp only
    split
    · exact (h.setSlice k (.toActive _)).conclude
    · exact h
  case frameStart =>
    split
    · exact h.setMp _
    · exact h
  case frameEnd =>
    split
    · exact h
    · split <;> exact h.setMp _
  case unknownOpcode =>
    split
    · exact h.commit _ h
    · exact h
  case getSummary => exact h.commit _ (summaryReply_bounded h)
  case readItem arg =>
    refine h.commit _ ?_
    split
    · exact itemReply_bounded h _
    · exact h
  case writeRegion i p => exact h.commit _ (regionReply_bounded h i _)
  case writeProfile i p => exact h.commit _ (profileReply_bounded h i p)
  case writeChipsel k p => exact h.commit _ (chipselReply_bounded h k p)
  case writeBankwin k p => exact h.commit _ (bankwinReply_bounded h k _)
  case writeQueueWatermark p => exact h.commit _ (watermarkReply_bounded h _)
  case writeAlertEnables p => exact h.commit _ (h.setFaults h.faults)
  case popFault => exact h.commit _ (popFault_bounded h)
  case peekFault => exact h.commit _ h
  case clearCauses arg mask => exact h.commit _ (h.setFaults (h.faults.clearCauses mask))
  case enterRetention => exact h.commit _ (enterReply_bounded h)
  case exitRetention => exact h.commit _ (exitReply_bounded h)
  case configReset => exact h.commit _ (configResetReply_bounded h)
  case pinReset => exact State.reset_bounded.of_eq rfl rfl rfl rfl rfl
  case resetRelease l =>
    split
    · exact h.of_eq rfl rfl rfl rfl rfl
    · exact h

theorem step_keeps_bounded {s s' : State} (h : s.Bounded) (hx : step s = .next s') : s'.Bounded := by
  unfold step at hx
  split at hx
  · cases hx
    exact h.idleStep
  · rename_i c rest _
    have hrest : ({ s with pending := rest } : State).Bounded := h.of_eq rfl rfl rfl rfl rfl
    exact exec_keeps_bounded c hrest hx

end Sys2Proof.Machine

/-! ## The frame in progress stays where its phase says (O54) -/

namespace Sys2Proof.Machine

/-! ### Bytes shifted into a frame -/

/-- The commit point: the opcode's bytes are all there (R173). -/
theorem Frame.commitDue_cons {f : Frame} {op : Byte} {rest : List Byte} (hr : f.result = none) (hb : f.received = op :: rest) :
    f.commitDue = true ↔ rest.length = 1 + payloadBytes op := by
  simp only [Frame.commitDue, commitLength, hr, hb, Option.isNone_none, Bool.true_and, beq_iff_eq]
  omega

/-- A byte received below the commit point keeps a frame where its phase says (R171). -/
theorem Frame.Sound.receive {f : Frame} (h : f.Sound) (hr : f.result = none) (hdue : f.commitDue = false) (b : Byte) :
    Frame.Sound { f with phase := nextPhase (f.received ++ [b]) f.phase, received := f.received ++ [b] } := by
  simp only [Frame.Sound, hr] at h ⊢
  obtain ⟨hdata, hwhere⟩ := h
  refine ⟨hdata, ?_⟩
  match hb : f.received with
  | [] => simp [nextPhase]
  | [op] =>
    simp only [hb] at hwhere
    by_cases hp : payloadBytes op = 0 <;> simp [nextPhase, commitLength, hp, hwhere]
  | op :: x :: rest =>
    rw [hb] at hwhere
    obtain ⟨hlen, hphase⟩ := hwhere
    have hne : (x :: rest).length ≠ 1 + payloadBytes op := fun heq => by
      simp [(Frame.commitDue_cons hr hb).2 heq] at hdue
    simp only [List.length_cons] at hlen hne
    have hp : payloadBytes op ≠ 0 := by omega
    simp only [hp, if_false] at hphase
    simp only [List.cons_append, nextPhase, hp, hphase, if_false, ite_self, List.length_cons, List.length_append, List.length_nil,
      and_true]
    omega

/-- Before the commit point a frame is in its opcode, argument or payload bytes (R171). -/
theorem Frame.Sound.phase_before_commit {f : Frame} (h : f.Sound) (hr : f.result = none) :
    f.phase = .opcode ∨ f.phase = .argument ∨ f.phase = .payload := by
  simp only [Frame.Sound, hr] at h
  obtain ⟨-, hwhere⟩ := h
  split at hwhere
  · exact .inl hwhere
  · exact .inr (.inl hwhere)
  · obtain ⟨-, hphase⟩ := hwhere
    split at hphase
    · exact .inr (.inl hphase)
    · exact .inr (.inr hphase)

/-- Before the commit point a byte shifted is a byte received (R171). -/
theorem Frame.shift_before_commit {f : Frame} (h : f.phase = .opcode ∨ f.phase = .argument ∨ f.phase = .payload) (b : Byte) :
    f.shift b =
      if f.commitDue then f else { f with phase := nextPhase (f.received ++ [b]) f.phase, received := f.received ++ [b] } := by
  obtain h | h | h := h <;> simp [Frame.shift, h]

theorem Frame.Sound.shift {f : Frame} (h : f.Sound) (b : Byte) : (f.shift b).Sound := by
  match hr : f.result with
  | none =>
    rw [Frame.shift_before_commit (h.phase_before_commit hr)]
    split
    · exact h
    · rename_i hdue
      exact h.receive hr (by simpa using hdue) b
  | some r =>
    have hout : f.phase = .result ∨ (f.phase = .data ∧ f.data ≠ []) ∨ (f.phase = .trailing ∧ f.data = []) := by
      simpa only [Frame.Sound, hr] using h
    obtain hp | ⟨hp, -⟩ | ⟨hp, hd⟩ := hout
    · by_cases hd : f.data = [] <;> simp [Frame.Sound, Frame.shift, hr, hp, hd]
    · match hd : f.data with
      | [] => simp [Frame.Sound, Frame.shift, hr, hp, hd]
      | [x] => simp [Frame.Sound, Frame.shift, hr, hp, hd]
      | x :: y :: rest => simp [Frame.Sound, Frame.shift, hr, hp, hd]
    · simp [Frame.Sound, Frame.shift, hr, hp, hd]

/-- A frame whose command has been performed shifts its result next. -/
theorem Frame.Sound.perform (f : Frame) (r : Result) (data : List Byte) : (f.perform r data).Sound := .inl rfl

/-! ### The Management Port in each command -/

namespace State.FrameSound

variable {s : State}

theorem of_frame {s' : State} (h : s.FrameSound) (hf : s'.mp.frame = s.mp.frame) : s'.FrameSound := by
  unfold State.FrameSound
  rw [hf]
  exact h

theorem of_some {s' : State} {f : Frame} (hf : s'.mp.frame = some f) (h : f.Sound) : s'.FrameSound := by
  intro g hg
  rw [hf] at hg
  cases hg
  exact h

theorem of_none {s' : State} (hf : s'.mp.frame = none) : s'.FrameSound := by
  intro g hg
  rw [hf] at hg
  cases hg

theorem commit (h : s.FrameSound) (bytes : List Byte) (r : Reply) : (s.commit bytes r).FrameSound := by
  unfold State.commit
  split
  · exact of_some rfl (.perform ..)
  · exact h

theorem idleStep (h : s.FrameSound) : s.idleStep.FrameSound := by
  unfold State.idleStep
  split
  · exact h
  · intro g hg
    obtain ⟨f, hf, rfl⟩ := Option.map_eq_some_iff.1 (Option.mem_def.1 hg)
    unfold Frame.period
    split
    · exact (h f hf).shift _
    · exact h f hf

end State.FrameSound

/-- Every command keeps the frame where its phase says: the ones outside the Management Port leave its frame as it is. -/
theorem exec_keeps_frameSound (c : Instr) {s s' : State} (h : s.FrameSound) (hx : exec c s = .next s') : s'.FrameSound := by
  cases c <;> injection hx with hx <;> subst hx
  case frameStart =>
    split
    · exact .of_some rfl ⟨rfl, rfl⟩
    · exact h
  case frameEnd =>
    split
    · exact h
    · split
      · exact .of_none rfl
      · exact h.of_frame rfl
  case unknownOpcode =>
    split
    · exact h.commit _ _
    · exact h
  case pinReset => exact .of_none rfl
  case resetRelease =>
    split
    · exact h.of_frame rfl
    · exact h
  case intervalExpiry k =>
    dsimp only
    (repeat' split) <;> exact h.of_frame (by simp)
  case exitTimerExpiry k =>
    dsimp only
    split <;> exact h.of_frame (by simp)
  case getSummary | readItem | writeRegion | writeProfile | writeChipsel | writeBankwin | writeQueueWatermark | writeAlertEnables
      | popFault | peekFault | clearCauses | enterRetention | exitRetention | configReset => exact h.commit _ _
  all_goals (repeat' split) <;> exact h.of_frame (by simp)

theorem step_keeps_frameSound {s s' : State} (h : s.FrameSound) (hx : step s = .next s') : s'.FrameSound := by
  unfold step at hx
  split at hx
  · cases hx
    exact h.idleStep
  · rename_i c rest _
    have hrest : ({ s with pending := rest } : State).FrameSound := h
    exact exec_keeps_frameSound c hrest hx

/-- Settles O54: the ranges and the frame are kept separately, each by every command and by the idle step. -/
theorem stepKeepsCountsTablesAndSlicesInRange : Obligations.StepKeepsCountsTablesAndSlicesInRange := by
  refine ⟨fun s s' hcounts htables hslices hx => ?_, fun s s' h hx => step_keeps_frameSound h hx⟩
  exact s'.bounded_iff.1 (step_keeps_bounded (s.bounded_iff.2 ⟨hcounts, htables, hslices⟩) hx)

end Sys2Proof.Machine

/-! ## Region decode (O6 to O10) -/

namespace Sys2Proof.Machine

/-! ### Coverage and selection -/

/-- The span in numbers (R2). -/
theorem Region.spans_iff (r : Region) (h : Nat) :
    r.spans h = true ↔ r.base.toNat * 4096 ≤ h ∧ h < (r.base.toNat + r.units) * 4096 := by
  unfold Region.spans
  simp only [Bool.and_eq_true, decide_eq_true_eq]

/-- Coverage in numbers: the entry is valid and the word's even byte address lies in its span (R2, R4). -/
theorem Region.covers_iff (r : Region) (w : WordAddr) :
    r.covers w = true ↔
      r.valid = true ∧ r.base.toNat * 4096 ≤ 2 * w.toNat ∧ 2 * w.toNat < (r.base.toNat + 2 ^ r.sizeCode.toNat) * 4096 := by
  rw [Region.covers, Bool.and_eq_true, Region.spans_iff]
  rfl

/-- Nothing is selected only when no entry covers the word (R4). -/
theorem Tables.select_eq_none_iff (t : Tables) (w : WordAddr) :
    t.select w = none ↔ ∀ i : Fin 16, ¬ t.regions[i].covers w = true := by
  simp [Tables.select, List.find?_eq_none]

/-- An entry that covers the word, with none below it that does, is selected (R4). -/
theorem Tables.select_of_lowest {t : Tables} {w : WordAddr} {i : Fin 16} (hi : t.regions[i].covers w = true)
    (hlow : ∀ j : Fin 16, j < i → ¬ t.regions[j].covers w = true) : t.select w = some i := by
  unfold Tables.select
  rw [List.find?_eq_some_iff_getElem]
  refine ⟨hi, i, by simp, by simp, fun j hj => ?_⟩
  simpa using hlow ⟨j, hj.trans i.isLt⟩ hj

/-! ### What decode answers -/

/-- The target of an access whose selected entry is `i` (R5, R14). -/
def Tables.targetOf (t : Tables) (i : Fin 16) (w : WordAddr) : Target :=
  { region := i, cs := t.regions[i].cs, phys := physWord t.regions[i] (t.bankOf t.regions[i]) w,
    profile := t.regions[i].profileIndex }

theorem Tables.decode_target (t : Tables) (lock : Option Lock) (p : Presented) :
    (t.decode lock p).target = (t.select p.word).map (fun i => t.targetOf i p.word) := by
  unfold Tables.decode
  dsimp only
  split <;> simp_all [Tables.targetOf]

theorem Tables.decode_disposition_of_none {t : Tables} {p : Presented} (h : t.select p.word = none) (lock : Option Lock) :
    (t.decode lock p).disposition = .fault .decodeMiss := by
  simp [Tables.decode, h]

/-- A failed check names the fault of the descriptor (R10). -/
theorem Tables.decode_disposition_of_check {t : Tables} {p : Presented} {i : Fin 16} {k : FaultKind} (h : t.select p.word = some i)
    (hk : decodeCheck p t.regions[i] t.chipsels[t.regions[i].cs].cls = some k) (lock : Option Lock) :
    (t.decode lock p).disposition = .fault k := by
  simp only [Tables.decode, h, hk]

/-- With every check passed the disposition is that of R12 or R13. -/
theorem Tables.decode_disposition_of_pass {t : Tables} {p : Presented} {i : Fin 16} (h : t.select p.word = some i)
    (hk : decodeCheck p t.regions[i] t.chipsels[t.regions[i].cs].cls = none) (lock : Option Lock) :
    (t.decode lock p).disposition =
      dispositionOf p t.regions[i] t.chipsels[t.regions[i].cs].cls lock (t.targetOf i p.word) := by
  simp only [Tables.decode, h, hk, Tables.targetOf]

/-- No disposition of R12 or R13 is a fault. -/
theorem dispositionOf_not_fault (p : Presented) (r : Region) (c : CsClass) (lock : Option Lock) (t : Target) (k : FaultKind) :
    dispositionOf p r c lock t ≠ .fault k := by
  unfold dispositionOf
  (repeat' split) <;> simp

theorem Descriptor.faulted_iff (d : Descriptor) : d.faulted = true ↔ ∃ k, d.disposition = .fault k := by
  unfold Descriptor.faulted
  cases d.disposition <;> simp

/-- An access with a selected entry faults only when a check fails (R10). -/
theorem Tables.decode_faulted_eq_false_iff {t : Tables} {p : Presented} {i : Fin 16} (h : t.select p.word = some i)
    (lock : Option Lock) :
    (t.decode lock p).faulted = false ↔ decodeCheck p t.regions[i] t.chipsels[t.regions[i].cs].cls = none := by
  rw [← Bool.not_eq_true, Descriptor.faulted_iff]
  cases hk : decodeCheck p t.regions[i] t.chipsels[t.regions[i].cs].cls with
  | none => simp [Tables.decode_disposition_of_pass h hk, dispositionOf_not_fault]
  | some k => simp [Tables.decode_disposition_of_check h hk]

/-- Settles O6: selection by `Tables.select_of_lowest`, and its target by `Tables.decode_target`. -/
theorem lowestCoveringEntryIsSelected : Obligations.LowestCoveringEntryIsSelected := by
  intro t lock p
  simp only [← Region.covers_iff]
  refine ⟨fun i hi hlow => ?_, fun hnone => ?_⟩
  · simp [Tables.decode_target, Tables.select_of_lowest hi hlow, Tables.targetOf]
  · have hsel : t.select p.word = none := (t.select_eq_none_iff p.word).2 hnone
    exact ⟨by simp [Tables.decode_target, hsel], Tables.decode_disposition_of_none hsel lock⟩

/-! ### The physical address -/

/-- The physical word address as a number: the byte address halved, which fits its 23 bits (R5). -/
theorem physWord_toNat (r : Region) (bank : Nat) (w : WordAddr) : (physWord r bank w).toNat = physByte r bank (2 * w.toNat) / 2 := by
  have hlt : physByte r bank (2 * w.toNat) < 2 ^ 24 := Nat.mod_lt _ (by decide)
  rw [physWord, BitVec.toNat_ofNat]
  exact Nat.mod_eq_of_lt (by omega)

/-- The bank number is that of the window named by 00h to 03h (R24). -/
theorem Tables.bankOf_of_window (t : Tables) {r : Region} {k : Fin 4} (h : r.window.toNat = k.val) :
    t.bankOf r = t.windows[k].bank.toNat := by
  have hk : r.attached = some k := by simp [Region.attached, h]
  simp [Tables.bankOf, hk]

/-- With no window named the bank number is 0 (R24). -/
theorem Tables.bankOf_of_none (t : Tables) {r : Region} (h : 4 ≤ r.window.toNat) : t.bankOf r = 0 := by
  have hk : r.attached = none := by simp [Region.attached, h]
  simp [Tables.bankOf, hk]

/-- A profile byte of 0 to 7 names that profile (R18). -/
theorem Region.profileIndex_val {r : Region} (h : r.profile.toNat ≤ 7) : r.profileIndex.val = r.profile.toNat := by
  have hv : r.profileIndex.val = r.profile.toNat % 8 := by simp [Region.profileIndex]
  omega

/-- Settles O7: the target of the selected entry, its physical word by `physWord_toNat` and its bank by the window named. -/
theorem physicalAddressIsTheSumModulo16MiB : Obligations.PhysicalAddressIsTheSumModulo16MiB := by
  intro t lock p i hsel
  refine ⟨t.targetOf i p.word, by simp [Tables.decode_target, hsel], rfl, rfl, fun hp => Region.profileIndex_val hp,
    fun k hk => ?_, fun hw => ?_⟩
  · rw [Tables.targetOf, physWord_toNat, t.bankOf_of_window hk, physByte, Region.units]
  · rw [Tables.targetOf, physWord_toNat, t.bankOf_of_none hw, physByte, Nat.zero_mul, Nat.add_zero]

/-- A displacement from `b` that grows by `k` grows the reduced sum by `k`. -/
theorem add_displacement_mod (o m k : Nat) {b h : Nat} (hb : b ≤ h) :
    (o + (h + k - b)) % m = ((o + (h - b)) % m + k) % m := by
  rw [Nat.mod_add_mod, Nat.sub_add_comm hb, Nat.add_assoc]

/-- A host address 2k bytes further is the sum 2k further, before the reduction modulo 16 MiB (R6). -/
theorem physByte_add (r : Region) (bank k h : Nat) (hb : r.base.toNat * 4096 ≤ h) :
    physByte r bank (h + 2 * k) = (physByte r bank h + 2 * k) % 2 ^ 24 :=
  add_displacement_mod _ _ _ hb

/-- Settles O8: doubling a word offset commutes with both reductions, 2^24 for bytes and 2^23 for words. -/
theorem burstWordsLandAsDecodedAlone : Obligations.BurstWordsLandAsDecodedAlone := by
  intro r bank k w hb
  apply BitVec.eq_of_toNat_eq
  rw [BitVec.toNat_add, physWord_toNat, BitVec.toNat_ofNat, BitVec.toNat_ofNat, Nat.mul_add, physByte_add r bank k _ hb]
  omega

/-! ### The checks and the disposition -/

/-- The burst is split when its last word lies outside the span (R11). -/
theorem splits_iff (r : Region) (p : Presented) :
    splits r p = true ↔ ¬ (r.base.toNat * 4096 ≤ 2 * (p.word.toNat + p.words - 1)
      ∧ 2 * (p.word.toNat + p.words - 1) < (r.base.toNat + 2 ^ r.sizeCode.toNat) * 4096) := by
  rw [splits, Bool.not_eq_true', ← Bool.not_eq_true, Region.spans_iff]
  rfl

/-- Settles O9: each clause makes one check of `decodeCheck` the first that fails, or makes all of them pass. -/
theorem firstFailedCheckNamesTheFault : Obligations.FirstFailedCheckNamesTheFault := by
  intro t lock p
  refine ⟨fun h => Tables.decode_disposition_of_none h lock, fun i hsel => ?_⟩
  have fails (k : FaultKind) := Tables.decode_disposition_of_check (k := k) hsel (lock := lock)
  have passes := Tables.decode_faulted_eq_false_iff hsel lock
  dsimp only
  generalize t.chipsels[t.regions[i].cs].cls = c at fails passes ⊢
  generalize t.regions[i] = r at fails passes ⊢
  have inside_iff := not_iff_comm.1 (splits_iff r p).symm
  rw [← inside_iff]
  refine ⟨fun hcls => fails _ ?_, fun hcls hap haux => fails _ ?_, fun hcls haux hwr => fails _ ?_,
    fun hcls haux hwr hc => fails _ ?_, fun hcls hap haux hwr hc hin => fails _ ?_, fun hcls hap hwr hc => passes.2 ?_⟩
  all_goals unfold decodeCheck
  · simp [hcls]
  · simp [hcls, hap, haux]
  · simpa [hcls, hwr] using haux
  · rw [if_neg hcls, if_neg (by simpa using haux), if_neg (by simpa using hwr), if_pos hc]
  · rw [if_neg hcls, if_neg (by simp [haux]), if_neg (by simpa using hwr), if_neg hc, if_pos ⟨hap, not_not.1 hin⟩]
  · rw [if_neg hcls, if_neg (by simpa using fun h => (hap h).1), if_neg (by simpa using hwr), if_neg hc,
      if_neg (by simpa using fun h => (hap h).2)]

/-- Settles O10: past the checks the descriptor has the disposition of `dispositionOf`, case by case. -/
theorem dispositionFollowsTheTable : Obligations.DispositionFollowsTheTable := by
  intro t lock p i tg hsel htg hf
  have hpass := (Tables.decode_faulted_eq_false_iff hsel lock).1 hf
  have htarget : t.targetOf i p.word = tg := by simpa [Tables.decode_target, hsel] using htg
  dsimp only
  rw [Tables.decode_disposition_of_pass hsel hpass, htarget]
  generalize t.chipsels[t.regions[i].cs].cls = c
  generalize t.regions[i] = r
  refine ⟨fun hap => ?_, fun hsp hrd => ⟨fun hl => ?_, fun hl hcls => ?_, fun hl hcls => ?_⟩,
    fun hsp hwr => ⟨fun hl => ?_, fun hl hcls hc => ?_, fun hl hcls => ?_⟩⟩
  · simp [dispositionOf, hap]
  · simp [dispositionOf, hsp, hrd, hl]
  · simp [dispositionOf, hsp, hrd, hl, hcls]
  · obtain hcls | hcls := hcls <;> simp [dispositionOf, hsp, hrd, hl, hcls]
  · simp [dispositionOf, hsp, hwr, hl]
  · simp [dispositionOf, hsp, hwr, hl, hcls, hc]
  · obtain hcls | ⟨hcls, hc⟩ := hcls
    · simp [dispositionOf, hsp, hwr, hl, hcls]
    · simp [dispositionOf, hsp, hwr, hl, hcls, hc]

end Sys2Proof.Machine

/-! ## Presentations of the two ports (O11, O13, O16, O24) -/

namespace Sys2Proof.Machine

/-! ### The System Port -/

/-- A presentation that is taken is decoded, and the Arbiter decides (R64, R111). -/
theorem execSpPresentation_of_presented {s : State} {t : SpTerminals} (h : s.Presented t) :
    exec (.spPresentation t) s = .next (s.presentSp t).decide := by
  show execSpPresentation t s = _
  rw [execSpPresentation, if_pos (s.spReady_of_presented t h)]

/-- The terminals are taken as a presentation in the states of R64 and R85 only. -/
theorem State.spReady_iff (s : State) (t : SpTerminals) : s.spReady t = true ↔ s.Presented t := by
  refine ⟨fun h => ?_, s.spReady_of_presented t⟩
  simp only [State.spReady, SpTerminals.presents, Bool.and_eq_true, Bool.not_eq_true', beq_iff_eq, bne_iff_ne] at h
  obtain ⟨⟨⟨hreset, hseen⟩, hidle⟩, hce, hstrobe⟩ := h
  exact ⟨hreset, hseen, hidle, hce, hstrobe⟩

/-- Terminals that are no presentation change nothing (R64, R85). -/
theorem execSpPresentation_of_not_presented {s : State} {t : SpTerminals} (h : ¬ s.Presented t) :
    exec (.spPresentation t) s = .next s := by
  show execSpPresentation t s = _
  rw [execSpPresentation, if_neg (mt (s.spReady_iff t).1 h)]

/-- The direction of a presented access is its strobe's (R64). -/
theorem State.spDecoded_dir (s : State) (t : SpTerminals) : (s.spDecoded t).dir = if t.rd = true then .read else .write :=
  Tables.decode_dir ..

/-- The word driven with ABORT is that of the strobe's direction (R72). -/
theorem abortWord_spDecoded (s : State) (t : SpTerminals) :
    abortWord (s.spDecoded t) = if t.rd = true then some 0xFFFF else none := by
  rw [abortWord, s.spDecoded_dir t]
  cases t.rd <;> rfl

/-- The occurrence of a faulted System Port access in terms of its terminals (R16). -/
theorem spOccurrence_spDecoded (s : State) (t : SpTerminals) (k : FaultKind) :
    (s.spDecoded t).spOccurrence k =
      { kind := k, source := .sp, dir := if t.rd = true then .read else .write, word := some t.a, lanes := some (spLanes t)
        burst := none, data := if t.rd = true then none else some t.d
        region := (s.spDecoded t).target.map (·.region), cs := (s.spDecoded t).target.map (·.cs)
        phys := (s.spDecoded t).target.map (·.phys) } := by
  have hdir := s.spDecoded_dir t
  have hword : (s.spDecoded t).word = t.a := Tables.decode_word ..
  have hlanes : (s.spDecoded t).lanes = spLanes t := Tables.decode_lanes ..
  have hdata : (s.spDecoded t).data = (spPresented t).data := Tables.decode_data ..
  unfold Descriptor.spOccurrence Descriptor.faultDir Descriptor.faultData
  rw [hdir, hword, hlanes, hdata]
  cases hr : t.rd <;> simp [spPresented, spDirection, hr]

/-- Settles O11: the fault's branch of `State.presentSp_eq`, with its answer and record in terms of the terminals. -/
theorem faultedSystemAccessIsRefusedAtOnce : Obligations.FaultedSystemAccessIsRefusedAtOnce := by
  intro s t k hp hk
  rw [execSpPresentation_of_presented hp, State.presentSp_eq, hk]
  dsimp only
  rw [abortWord_spDecoded, spOccurrence_spDecoded]
  rfl

/-- Only a FORWARD-CHECK read is answered from the queue (R50). -/
theorem State.forwardHit_of_posted (s : State) {d : Descriptor} (h : d.disposition = .posted) : s.forwardHit d = none := by
  simp [State.forwardHit, h]

/-- A posted write is offered to the queue, and may resume the Retention Controller (R36, R157). -/
theorem State.handOnSp_of_posted (s : State) {d : Descriptor} {tg : Target} (h : d.disposition = .posted)
    (ht : d.target = some tg) : s.handOnSp d = (s.offerPosted d tg).autoResume d := by
  rw [State.handOnSp, s.forwardHit_of_posted h]
  simp only [State.placeSp, h, ht]

/-- Settles O13: the two outcomes of the offer. -/
theorem postedWriteIsQueuedOrHeldInFull : Obligations.PostedWriteIsQueuedOrHeldInFull := by
  intro s t tg hp hd ht
  dsimp only
  have hstep : exec (.spPresentation t) s =
      .next (((s.endLock.setTables (s.tables.capture (s.spDecoded t))).offerPosted (s.spDecoded t) tg).autoResume
        (s.spDecoded t)).decide := by
    rw [execSpPresentation_of_presented hp, State.presentSp_eq, hd]
    dsimp only
    rw [State.handOnSp_of_posted _ hd ht]
  rw [hstep, State.autoResume_of_target _ _ tg ht, State.offerPosted]
  simp only [State.setTables_queue, State.endLock_queue]
  constructor
  · intro q hq
    rw [newEntry, hq]
    rfl
  · intro hq
    rw [newEntry, hq]
    rfl

/-- Settles O16: each alternative denies one condition of a presentation. -/
theorem noPresentationWithoutOneStrobeOrRelease : Obligations.NoPresentationWithoutOneStrobeOrRelease := by
  intro s t h
  refine execSpPresentation_of_not_presented fun ⟨hreset, hseen, hidle, hce, hstrobe⟩ => ?_
  obtain h | h | h | h | h := h
  · exact hstrobe h
  · simp [h] at hce
  · exact h hidle
  · simp [h] at hseen
  · simp [h] at hreset

/-! ### The Auxiliary Port -/

/-- A request that is taken is decoded, and the Arbiter decides (R87, R111). -/
theorem execApPresentation_of_presented {s : State} (h : s.ApPresented) (t : ApTerminals) :
    exec (.apPresentation t) s = .next (s.presentAp t).decide := by
  obtain ⟨hreset, hseen, hidle⟩ := h
  show execApPresentation t s = _
  rw [execApPresentation, if_pos (by simp [State.apReady, hreset, hseen, hidle])]

/-- A faulted request closes with ERR and is recorded (R15, R88). -/
theorem State.presentAp_of_fault {s : State} {t : ApTerminals} {k : FaultKind} (h : (s.apDecoded t).disposition = .fault k) :
    s.presentAp t =
      (s.setAp
        { s.ap with phase := .closing .err, desc := some (s.apDecoded t), barrier := [], buffer := [], performed := 0
                    releaseSeen := false, axReq := true, closeLeft := none, beat := none }).deliver
        ((s.apDecoded t).apOccurrence k) := by
  unfold State.presentAp
  rw [← State.apDecoded]
  simp only [h]

/-- The burst length of a presented request (R87). -/
theorem Tables.decode_burst_ap (t : Tables) (lock : Option Lock) (x : ApTerminals) :
    (t.decode lock (apPresented x)).burst = some (apWords x) := by
  unfold Tables.decode
  dsimp only
  split <;> rfl

/-- The occurrence of a faulted request in terms of its terminals (R16). -/
theorem apOccurrence_apDecoded (s : State) (t : ApTerminals) (k : FaultKind) :
    (s.apDecoded t).apOccurrence k =
      { kind := k, source := .ap, dir := if t.wr = true then .write else .read, word := some t.a, lanes := none
        burst := some (t.len.toNat + 1), data := none
        region := (s.apDecoded t).target.map (·.region), cs := (s.apDecoded t).target.map (·.cs)
        phys := (s.apDecoded t).target.map (·.phys) } := by
  have hdir : (s.apDecoded t).dir = apDirection t := Tables.decode_dir ..
  have hword : (s.apDecoded t).word = t.a := Tables.decode_word ..
  have hburst : (s.apDecoded t).burst = some (apWords t) := Tables.decode_burst_ap ..
  unfold Descriptor.apOccurrence Descriptor.faultDir
  rw [hdir, hword, hburst]
  cases hw : t.wr <;> simp [apDirection, apWords, hw]

/-- Settles O24: the fault's branch of the request's decode, with its record in terms of the terminals. -/
theorem faultedBurstClosesWithError : Obligations.FaultedBurstClosesWithError := by
  intro s t k hp hk
  rw [execApPresentation_of_presented hp, State.presentAp_of_fault hk, apOccurrence_apDecoded]
  rfl

end Sys2Proof.Machine

/-! ## Pin reset and the state after reset (O4, O53) -/

namespace Sys2Proof.Machine

/-! ### The reset values of the tables and blocks -/

/-- Entry 0 holds the boot contents, the others the blank ones (R3). -/
theorem Tables.reset_regions (i : Fin 16) : Tables.reset.regions[i] = if i = 0 then Region.boot else Region.blank := by
  decide +revert

theorem Tables.reset_chipsels (k : Cs) :
    Tables.reset.chipsels[k] =
      { cls := if k = 0 then .rom else .unused, interval := 1560, cycle := 12, threshold := 5, enable := false, exitTime := 400 } := by
  decide +revert

/-- Every place of a replicated vector holds the value replicated. -/
theorem replicate_getElem_fin {α : Type} {n : Nat} (x : α) (i : Fin n) : (Vector.replicate n x)[i] = x := by
  rw [Fin.getElem_fin, Vector.getElem_replicate]

/-- Settles O4: pin reset gives `State.reset` but for RESET_N and the model's own fields. -/
theorem pinResetGivesThePinResetValues : Obligations.PinResetGivesThePinResetValues := by
  intro s
  refine ⟨{ State.reset with resetAsserted := true, draws := s.draws, msi := s.msi, pending := s.pending }, rfl, rfl,
    Tables.reset_regions, replicate_getElem_fin _, Tables.reset_chipsels, replicate_getElem_fin _, rfl, rfl, rfl, rfl,
    rfl, rfl, rfl, replicate_getElem_fin _, replicate_getElem_fin _, rfl, rfl,
    fun k => ⟨replicate_getElem_fin _ k, replicate_getElem_fin _ k⟩, rfl, rfl, rfl, rfl, rfl, rfl, rfl, rfl, rfl, rfl, rfl⟩

/-! ### The invariants of the state after reset -/

theorem State.reset_slices (k : Cs) : State.reset.slices[k] = Slice.reset := replicate_getElem_fin _ k

theorem State.reset_participants (k : Cs) : State.reset.retention.participants[k] = false := replicate_getElem_fin _ k

theorem State.reset_issued (k : Cs) : State.reset.retention.issued[k] = none := replicate_getElem_fin _ k

/-- Nothing is held in a field that is absent. -/
theorem forall_mem_none {α : Type} {P : α → Prop} (a : α) (h : a ∈ (none : Option α)) : P a := nomatch h

theorem State.reset_queueTargetsPosting : State.reset.QueueTargetsPosting :=
  ⟨fun _ he => absurd he List.not_mem_nil, forall_mem_none⟩

theorem State.reset_noRequest : State.reset.NoRequestAtFreeChannel := fun _ => by decide

theorem State.reset_lockClearsQueue : State.reset.LockClearsQueue := by
  unfold State.LockClearsQueue
  decide

theorem State.reset_holderAgrees : State.reset.HolderAgrees := by
  unfold State.HolderAgrees
  decide

theorem State.reset_burstSound : State.reset.BurstSound :=
  ⟨by decide, forall_mem_none, by decide, by decide⟩

/-- No slice is out of OFF after reset (R136). -/
theorem State.reset_slice_off (k : Cs) : State.reset.slices[k].state = .off := by
  rw [State.reset_slices]
  rfl

theorem State.reset_noWordWhileAsleep : State.reset.NoWordWhileAsleep :=
  ⟨forall_mem_none, fun k hk => absurd (State.reset_slice_off k) hk, forall_mem_none, forall_mem_none⟩

/-- RUNNING with no participant, no command issued and every slice OFF (R150). -/
theorem State.reset_retentionSoundAt (k : Cs) : State.reset.RetentionSoundAt k := by
  have hrun : State.reset.retention.state = .running := rfl
  simp only [State.RetentionSoundAt, State.reset_participants, hrun, State.reset_slice_off, State.reset_issued]
  decide

theorem State.reset_retentionSound : State.reset.RetentionSound :=
  ⟨State.reset_retentionSoundAt, by decide, fun k hk => absurd (State.reset_slice_off k) hk, forall_mem_none, by decide⟩

/-- Settles O53: the ranges as in O54, and each other invariant by its lemma above. -/
theorem resetStateHasEveryInvariant : Obligations.ResetStateHasEveryInvariant := by
  obtain ⟨hcounts, htables, hslices⟩ := State.reset.bounded_iff.1 State.reset_bounded
  exact ⟨hcounts, htables, hslices, State.reset_queueTargetsPosting, State.reset_noRequest, State.reset_lockClearsQueue,
    State.reset_holderAgrees, State.reset_burstSound, State.reset_noWordWhileAsleep, State.reset_retentionSound, .of_none rfl⟩

end Sys2Proof.Machine

/-! ## Management Port records (O44, O45, O49) -/

namespace Sys2Proof.Machine

/-! ### Numbers in bytes -/

/-- Bytes written side by side are a number in base 2^m. -/
theorem toNat_append_eq {n m : Nat} (x : BitVec n) (y : BitVec m) : (x ++ y).toNat = x.toNat * 2 ^ m + y.toNat := by
  rw [BitVec.toNat_append, ← Nat.shiftLeft_add_eq_or_of_lt y.isLt, Nat.shiftLeft_eq]

theorem halfOf_toNat (b0 b1 : Byte) : (halfOf b0 b1).toNat = b0.toNat * 256 + b1.toNat := toNat_append_eq b0 b1

/-- The three bytes of a word address, its highest bit not examined (R177). -/
theorem addrOf_eq (b0 b1 b2 : Byte) : addrOf b0 b1 b2 = BitVec.ofNat 23 (b0.toNat * 65536 + b1.toNat * 256 + b2.toNat) := by
  apply BitVec.eq_of_toNat_eq
  rw [addrOf, BitVec.toNat_setWidth, toNat_append_eq, toNat_append_eq, BitVec.toNat_ofNat]
  omega

theorem upper_eq (n : BitVec 16) : upper n = BitVec.ofNat 8 (n.toNat / 256) := by
  apply BitVec.eq_of_toNat_eq
  simp [upper, Nat.shiftRight_eq_div_pow]

theorem lower_eq (n : BitVec 16) : lower n = BitVec.ofNat 8 n.toNat := by
  apply BitVec.eq_of_toNat_eq
  simp [lower]

theorem halfBytes_eq (n : BitVec 16) : halfBytes n = [BitVec.ofNat 8 (n.toNat / 256), BitVec.ofNat 8 n.toNat] := by
  rw [halfBytes, upper_eq, lower_eq]

theorem addrBytes_eq (a : WordAddr) :
    addrBytes a = [BitVec.ofNat 8 (a.toNat / 65536), BitVec.ofNat 8 (a.toNat / 256), BitVec.ofNat 8 a.toNat] := by
  have ha : (a.setWidth 24).toNat = a.toNat := BitVec.toNat_setWidth_of_le (by decide)
  unfold addrBytes
  dsimp only
  congr 1
  · apply BitVec.eq_of_toNat_eq
    rw [BitVec.extractLsb'_toNat, ha, Nat.shiftRight_eq_div_pow, BitVec.toNat_ofNat]
  · congr 1
    apply BitVec.eq_of_toNat_eq
    rw [BitVec.extractLsb'_toNat, ha, Nat.shiftRight_eq_div_pow, BitVec.toNat_ofNat]

/-- A half word written in two bytes reads back as them. -/
theorem halfBytes_halfOf (b0 b1 : Byte) : halfBytes (halfOf b0 b1) = [b0, b1] := by
  rw [halfBytes_eq, halfOf_toNat]
  have h1 := b1.isLt
  congr 1
  · apply BitVec.eq_of_toNat_eq
    rw [BitVec.toNat_ofNat]
    omega
  · congr 1
    apply BitVec.eq_of_toNat_eq
    rw [BitVec.toNat_ofNat]
    omega

/-! ### Frames at their commit point -/

/-- The argument byte of class `c` and index `i` (11.2). -/
theorem itemArg_eq (c : BitVec 4) {i : Nat} (h : i < 16) : itemArg c i = BitVec.ofNat 8 (c.toNat * 16 + i) := by
  apply BitVec.eq_of_toNat_eq
  have hc := c.isLt
  rw [itemArg, toNat_append_eq, BitVec.toNat_ofNat, BitVec.toNat_ofNat]
  omega

section Commits

variable {s : State} {f : Frame} {p : Payload}

/-- At its commit point a command that is performed leaves its part with DONE and its data (R173). -/
theorem commit_done {bytes : List Byte} (h : s.AtCommit f bytes) {x : State} {data : List Byte} (hm : x.mp = s.mp) :
    Host.Outcome.next (s.commit bytes (.done x data)) = (.next (x.withResult f .done data) : Host.Outcome State Fault Refusal) :=
  congrArg _ (s.commit_of_atCommit f bytes h _ hm)

/-- At its commit point a command that is refused leaves the part as it is (R171, R173). -/
theorem commit_refuse {bytes : List Byte} (h : s.AtCommit f bytes) (r : Result) (n : Nat) :
    Host.Outcome.next (s.commit bytes (.refuse s r n))
      = (.next (s.withResult f r (List.replicate n 0xFF)) : Host.Outcome State Fault Refusal) :=
  congrArg _ (s.commit_of_atCommit f bytes h _ rfl)

/-! ### Writing items (O45) -/

theorem regionReply_of_sound {i : Fin 16} {r : Region} (h : r.Sound) :
    regionReply s i r = .done (s.setTables { s.tables with regions := s.tables.regions.set i r }) [] :=
  if_neg (mt r.refused_iff.1 (not_not.2 h))

theorem regionReply_of_not_sound {i : Fin 16} {r : Region} (h : ¬ r.Sound) : regionReply s i r = .refuse s .badValue 0 :=
  if_pos (r.refused_iff.2 h)

/-- The mode codes 0 to 2 (11.6). -/
theorem readyModeOf_eq (b : Byte) :
    readyModeOf b = if b.toNat ≤ 2 then some (if b = 0 then .none else if b = 1 then .ready else .readyAfterStrobe) else none := by
  unfold readyModeOf
  by_cases h0 : b = 0
  · simp [h0]
  · by_cases h1 : b = 1
    · simp [h1]
    · have h2 : b = 2 ↔ b.toNat ≤ 2 := by bv_omega
      simp only [h0, h1, h2, if_false]

/-- The payload's fields are in the ranges of a timing profile (R124). -/
def ProfileLegal (p : Payload) : Prop :=
  p[0].toNat ≤ 7 ∧ 1 ≤ p[1].toNat ∧ p[1].toNat ≤ 31 ∧ p[2].toNat ≤ 7 ∧ p[3].toNat ≤ 15 ∧ p[4].toNat ≤ 2
    ∧ 16 ≤ p[5].toNat * 256 + p[6].toNat ∧ p[5].toNat * 256 + p[6].toNat ≤ 1023

/-- The profile that the payload's fields spell (11.6). -/
def profileFields (p : Payload) : Profile :=
  { setup := p[0].toNat, strobe := p[1].toNat, hold := p[2].toNat, recovery := p[3].toNat
    mode := if p[4] = 0 then .none else if p[4] = 1 then .ready else .readyAfterStrobe
    limit := p[5].toNat * 256 + p[6].toNat }

theorem profileOf_of_legal (h : ProfileLegal p) : profileOf p = some (profileFields p) := by
  obtain ⟨h0, h1, h1', h2, h3, h4, h5, h5'⟩ := h
  simp only [profileOf, readyModeOf_eq, h4, if_true, halfOf_toNat]
  rw [if_pos ⟨h0, h1, h1', h2, h3, h5, h5'⟩]
  rfl

theorem profileOf_of_not_legal (h : ¬ ProfileLegal p) : profileOf p = none := by
  by_cases h4 : p[4].toNat ≤ 2
  · simp only [profileOf, readyModeOf_eq, h4, if_true, halfOf_toNat]
    exact if_neg fun ⟨h0, h1, h1', h2, h3, h5, h5'⟩ => h ⟨h0, h1, h1', h2, h3, h4, h5, h5'⟩
  · simp only [profileOf, readyModeOf_eq, h4, if_false]

theorem windowOf_of_legal (h : p[4].toNat ≤ 63) :
    windowOf p =
      some { enable := p[0].getLsbD 0, addr := BitVec.ofNat 23 (p[1].toNat * 65536 + p[2].toNat * 256 + p[3].toNat)
             bank := BitVec.ofNat 6 p[4].toNat } := by
  rw [windowOf, if_pos (Nat.lt_succ_of_le h), addrOf_eq]
  rfl

theorem windowOf_of_not_legal (h : 64 ≤ p[4].toNat) : windowOf p = none := if_neg (Nat.not_lt.2 h)

end Commits

/-- Settles O45: each command commits the reply of its record, legal or refused. -/
theorem legalRecordsReplaceTheItem : Obligations.LegalRecordsReplaceTheItem := by
  intro s f p
  dsimp only
  refine ⟨fun i => ⟨fun hl h => ?_, fun hl h => ?_⟩, fun i => ⟨fun hl h => ?_, fun hl h => ?_⟩,
    fun k => ⟨fun hl h => ?_, fun hl h => ?_⟩, fun hl hl' h => ?_, fun hl h => ?_, fun h => ?_⟩
  · show execWriteRegion i p s = _
    rw [execWriteRegion, regionReply_of_sound hl, itemArg_eq 1 i.isLt]
    exact commit_done h rfl
  · show execWriteRegion i p s = _
    rw [execWriteRegion, regionReply_of_not_sound hl, itemArg_eq 1 i.isLt]
    exact commit_refuse h _ _
  · show execWriteProfile i p s = _
    rw [execWriteProfile, profileOf_of_legal hl, itemArg_eq 2 (i.isLt.trans (by decide))]
    exact commit_done h rfl
  · show execWriteProfile i p s = _
    rw [execWriteProfile, profileOf_of_not_legal hl, itemArg_eq 2 (i.isLt.trans (by decide))]
    exact commit_refuse h _ _
  · show execWriteBankwin k p s = _
    rw [execWriteBankwin, windowOf_of_legal hl, itemArg_eq 4 (k.isLt.trans (by decide))]
    exact commit_done h rfl
  · show execWriteBankwin k p s = _
    rw [execWriteBankwin, windowOf_of_not_legal hl, itemArg_eq 4 (k.isLt.trans (by decide))]
    exact commit_refuse h _ _
  · show execWriteQueueWatermark p s = _
    rw [execWriteQueueWatermark, watermarkReply, if_pos ⟨hl, hl'⟩]
    exact commit_done h rfl
  · show execWriteQueueWatermark p s = _
    rw [execWriteQueueWatermark, watermarkReply, if_neg (by omega)]
    exact commit_refuse h _ _
  · exact commit_done h rfl

end Sys2Proof.Machine

namespace Sys2Proof.Machine

/-! ### The layouts of 11.6 against the payloads they are read from (O49) -/

/-- A bit of a byte as a number. -/
theorem toNat_ofBool_getLsbD (b : Byte) (i : Nat) : (BitVec.ofBool (b.getLsbD i)).toNat = b.toNat / 2 ^ i % 2 := by
  rw [BitVec.toNat_ofBool, BitVec.getLsbD, Nat.toNat_testBit]

/-- A field of a byte as a number. -/
theorem toNat_field (b : Byte) (i n : Nat) : (b.extractLsb' i n).toNat = b.toNat / 2 ^ i % 2 ^ n := by
  rw [BitVec.extractLsb'_toNat, Nat.shiftRight_eq_div_pow]

/-- A mask of the low `k` bits reads the others as 0. -/
theorem toNat_and_mask (b : Byte) {m : Byte} (k : Nat) (hm : m.toNat = 2 ^ k - 1) : (b &&& m).toNat = b.toNat % 2 ^ k := by
  rw [BitVec.toNat_and, hm, Nat.and_two_pow_sub_one_eq_mod]

theorem RegionClass.code_regionClassOf (c : BitVec 2) : (regionClassOf c).code = c := by
  decide +revert

theorem CsClass.code_csClassOf (c : BitVec 2) : (csClassOf c).code = c := by
  decide +revert

theorem ReadyMode.code_of_readyModeOf {b : Byte} {m : ReadyMode} (h : readyModeOf b = some m) : m.code = b := by
  unfold readyModeOf at h
  split at h
  · next hb => cases h; exact hb.symm
  · split at h
    · next hb => cases h; exact hb.symm
    · split at h
      · next hb => cases h; exact hb.symm
      · cases h

theorem csOf_field_val (b : Byte) : (csOf (b.extractLsb' 0 2)).val = b.toNat % 4 := by
  show (b.extractLsb' 0 2).toNat = _
  rw [toNat_field]
  omega

/-- A 12-bit field has the low four bits of its first byte. -/
theorem setWidth12_halfOf_toNat (b0 b1 : Byte) : ((halfOf b0 b1).setWidth 12).toNat = (b0.toNat * 256 + b1.toNat) % 4096 := by
  rw [BitVec.toNat_setWidth, halfOf_toNat]

/-- A 12-bit field reads back with the high four bits of its first byte as 0. -/
theorem halfBytes_setWidth12 (b0 b1 : Byte) : halfBytes (((halfOf b0 b1).setWidth 12).setWidth 16) = [b0 &&& 0x0F, b1] := by
  have hw : (((halfOf b0 b1).setWidth 12).setWidth 16).toNat = (b0.toNat * 256 + b1.toNat) % 4096 := by
    rw [BitVec.toNat_setWidth_of_le (by decide), setWidth12_halfOf_toNat]
  have hb1 := b1.isLt
  rw [halfBytes_eq, hw]
  congr 1
  · apply BitVec.eq_of_toNat_eq
    rw [toNat_and_mask b0 4 rfl, BitVec.toNat_ofNat]
    omega
  · congr 1
    apply BitVec.eq_of_toNat_eq
    rw [BitVec.toNat_ofNat]
    omega

/-- A word address reads back with the highest bit of its first byte as 0. -/
theorem addrBytes_addrOf (b0 b1 b2 : Byte) : addrBytes (addrOf b0 b1 b2) = [b0 &&& 0x7F, b1, b2] := by
  have h0 := b0.isLt
  have h1 := b1.isLt
  have h2 := b2.isLt
  rw [addrBytes_eq, addrOf_eq, BitVec.toNat_ofNat]
  congr 1
  · apply BitVec.eq_of_toNat_eq
    rw [toNat_and_mask b0 7 rfl, BitVec.toNat_ofNat]
    omega
  · congr 1
    · apply BitVec.eq_of_toNat_eq
      rw [BitVec.toNat_ofNat]
      omega
    · congr 1
      apply BitVec.eq_of_toNat_eq
      rw [BitVec.toNat_ofNat]
      omega

/-! #### The records -/

theorem bytes_regionOf (p : Payload) :
    (regionOf p).bytes = [p[0], p[1] &&& 0x0F, p[2], p[3] &&& 0x0F, p[4], p[5] &&& 0x03, p[6], p[7]] := by
  have hflags : BitVec.ofBool (p[0].getLsbD 7) ++ BitVec.ofBool (p[0].getLsbD 6) ++ p[0].extractLsb' 4 2 ++ p[0].extractLsb' 0 4
      = p[0] := by
    apply BitVec.eq_of_toNat_eq
    simp only [toNat_append_eq, toNat_ofBool_getLsbD, toNat_field]
    omega
  have hcs : BitVec.ofNat 8 (csOf (p[5].extractLsb' 0 2)) = p[5] &&& 0x03 := by
    apply BitVec.eq_of_toNat_eq
    rw [csOf_field_val, toNat_and_mask p[5] 2 rfl, BitVec.toNat_ofNat]
    omega
  simp only [Region.bytes, regionOf, RegionClass.code_regionClassOf, halfBytes_setWidth12, hcs]
  rw [hflags]
  rfl

/-- The first byte of a CHIPSEL record: bits 4 and 3 read as 0. -/
theorem chipSel_firstByte (b : Byte) :
    b.extractLsb' 6 2 ++ BitVec.ofBool (b.getLsbD 5) ++ (0 : BitVec 2) ++ b.extractLsb' 0 3 = b &&& 0xE7 := by
  apply BitVec.eq_of_getLsbD_eq
  intro i hi
  simp only [BitVec.getLsbD_append, BitVec.getLsbD_and, BitVec.getLsbD_extractLsb', BitVec.getLsbD_ofBool]
  interval_cases i <;> simp

theorem bytes_chipSelOf (p : Payload) (sl : Slice) :
    chipSelBytes (chipSelOf p) sl =
      [p[0] &&& 0xE7, p[1], p[2], p[3], p[4], p[5], (0 : BitVec 1) ++ sl.state.code ++ BitVec.ofNat 4 sl.debt, 0] := by
  simp only [chipSelBytes, chipSelOf, CsClass.code_csClassOf, BitVec.ofNat_toNat, BitVec.setWidth_eq, halfBytes_halfOf,
    chipSel_firstByte]
  rfl

/-- Byte 6 of a CHIPSEL record: the slice state above the debt (R123). -/
theorem sliceByte_toNat (sl : Slice) (h : sl.debt ≤ 8) :
    ((0 : BitVec 1) ++ sl.state.code ++ BitVec.ofNat 4 sl.debt).toNat = sl.state.code.toNat * 16 + sl.debt := by
  rw [toNat_append_eq, toNat_append_eq, BitVec.toNat_ofNat, Nat.mod_eq_of_lt (by omega)]
  simp

theorem bytes_of_profileOf {p : Payload} {x : Profile} (h : profileOf p = some x) :
    x.bytes = [p[0], p[1], p[2], p[3], p[4], p[5], p[6], 0] := by
  unfold profileOf at h
  split at h
  · cases h
  · rename_i m hm
    dsimp only at h
    split at h
    · cases h
      simp only [Profile.bytes, BitVec.ofNat_toNat, BitVec.setWidth_eq, ReadyMode.code_of_readyModeOf hm, halfBytes_halfOf]
      rfl
    · cases h

theorem bytes_of_windowOf {p : Payload} {x : Window} (h : windowOf p = some x) :
    x.bytes = [p[0] &&& 0x01, p[1] &&& 0x7F, p[2], p[3], p[4], 0, 0, 0] := by
  unfold windowOf at h
  split at h
  · rename_i hbank
    cases h
    have henable : (BitVec.ofBool (p[0].getLsbD 0)).setWidth 8 = p[0] &&& 0x01 := by
      apply BitVec.eq_of_toNat_eq
      rw [BitVec.toNat_setWidth_of_le (by decide), toNat_ofBool_getLsbD, toNat_and_mask p[0] 1 rfl, pow_zero, Nat.div_one, pow_one]
    have hnumber : (p[4].setWidth 6 : BitVec 6).setWidth 8 = p[4] := by
      apply BitVec.eq_of_toNat_eq
      rw [BitVec.toNat_setWidth_of_le (by decide), BitVec.toNat_setWidth, Nat.mod_eq_of_lt hbank]
    simp only [Window.bytes, addrBytes_addrOf, henable, hnumber]
    rfl
  · cases h

/-- Settles O49: the fields as numbers of the payload's bytes, and each record's bytes against its payload. -/
theorem recordsReadBackAsWritten : Obligations.RecordsReadBackAsWritten := by
  refine ⟨fun p => ?_, bytes_regionOf, fun p sl hsl => ?_, fun p x => bytes_of_profileOf, fun p x => bytes_of_windowOf⟩
  · dsimp only
    refine ⟨⟨rfl, rfl, ?_, ?_, setWidth12_halfOf_toNat _ _, setWidth12_halfOf_toNat _ _, csOf_field_val _, rfl, rfl⟩, ?_, rfl, ?_,
      halfOf_toNat _ _, rfl, halfOf_toNat _ _⟩
    · have hcode : p[0].toNat / 16 % 4 = (p[0].extractLsb' 4 2).toNat := by
        rw [toNat_field]
        omega
      rw [hcode]
      show regionClassOf (p[0].extractLsb' 4 2) = _
      generalize p[0].extractLsb' 4 2 = c
      decide +revert
    · show (p[0].extractLsb' 0 4).toNat = _
      rw [toNat_field]
      omega
    · have hcode : p[0].toNat / 64 = (p[0].extractLsb' 6 2).toNat := by
        rw [toNat_field]
        omega
      rw [hcode]
      show csClassOf (p[0].extractLsb' 6 2) = _
      generalize p[0].extractLsb' 6 2 = c
      decide +revert
    · show (p[0].extractLsb' 0 3).toNat = _
      rw [toNat_field]
      omega
  · refine ⟨_, bytes_chipSelOf p sl, ?_, ?_⟩
    · rw [sliceByte_toNat sl hsl]
      omega
    · rw [sliceByte_toNat sl hsl, show ∀ n, (n * 16 + sl.debt) / 16 = n by omega]
      cases sl.state <;> rfl

end Sys2Proof.Machine

namespace Sys2Proof.Machine

/-! ### Reading items (O44) -/

/-- The class and the index in an argument byte (11.2). -/
theorem itemOf_region (i : Fin 16) : itemOf (BitVec.ofNat 8 (0x10 + i)) = some (.region i) := by
  decide +revert

theorem itemOf_profile (i : Fin 8) : itemOf (BitVec.ofNat 8 (0x20 + i)) = some (.profile i) := by
  decide +revert

theorem itemOf_chipsel (k : Cs) : itemOf (BitVec.ofNat 8 (0x30 + k)) = some (.chipsel k) := by
  decide +revert

theorem itemOf_bankwin (k : Fin 4) : itemOf (BitVec.ofNat 8 (0x40 + k)) = some (.bankwin k) := by
  decide +revert

/-- The argument bytes that name no item: an unknown class, or an index out of its class's range (11.2). -/
theorem itemOf_eq_none {arg : Byte}
    (h : arg.toNat < 0x10 ∨ (0x28 ≤ arg.toNat ∧ arg.toNat < 0x30) ∨ (0x34 ≤ arg.toNat ∧ arg.toNat < 0x40)
      ∨ (0x44 ≤ arg.toNat ∧ arg.toNat < 0x50) ∨ (0x51 ≤ arg.toNat ∧ arg.toNat < 0x60) ∨ (0x61 ≤ arg.toNat ∧ arg.toNat < 0x70)
      ∨ (0x71 ≤ arg.toNat ∧ arg.toNat < 0x80) ∨ 0x81 ≤ arg.toNat) : itemOf arg = none := by
  have hclass : (arg.extractLsb' 4 4).toNat = arg.toNat / 16 := by
    have := arg.isLt
    rw [toNat_field]
    omega
  have hindex : (arg.extractLsb' 0 4).toNat = arg.toNat % 16 := by
    rw [toNat_field]
    omega
  unfold itemOf
  rw [hclass, hindex]
  dsimp only
  split
  case h_9 => rfl
  case h_5 | h_6 | h_7 | h_8 => exact if_neg (by omega)
  all_goals exact dif_neg (by omega)

section Reads

variable {s : State} {f : Frame} {arg : Byte} {p : Payload}

/-- A READ_ITEM that names an item commits the item's record (R174). -/
theorem exec_readItem {i : Item} (hi : itemOf arg = some i) :
    exec (.readItem arg) s = .next (s.commit [0x20, arg] (itemReply s i)) := by
  show execReadItem arg s = _
  rw [execReadItem, hi]
  rfl

/-- A READ_ITEM that names no item is refused (R173). -/
theorem exec_readItem_refused (hi : itemOf arg = none) :
    exec (.readItem arg) s = .next (s.commit [0x20, arg] (.refuse s .badItem 8)) := by
  show execReadItem arg s = _
  rw [execReadItem, hi]
  rfl

/-- A frame of the UNKNOWN_OPCODE row other than WRITE_ITEM's is refused (R173). -/
theorem exec_unknownOpcode_short {op : Byte} (hr : frameRefused op arg = true) (hw : op ≠ opWriteItem) :
    exec (.unknownOpcode op arg p) s = .next (s.commit [op, arg] (.refuse s .badItem (if op = opReadItem then 8 else 0))) := by
  show execUnknownOpcode op arg p s = _
  rw [execUnknownOpcode, if_pos hr, if_neg hw]
  rfl

/-- A WRITE_ITEM frame that names no item that can be written is refused (R173). -/
theorem exec_unknownOpcode_write (hr : frameRefused opWriteItem arg = true) :
    exec (.unknownOpcode 0x21 arg p) s = .next (s.commit ([0x21, arg] ++ p.toList) (.refuse s .badItem 0)) := by
  show execUnknownOpcode opWriteItem arg p s = _
  rw [execUnknownOpcode, if_pos hr, if_pos rfl, if_neg (by decide)]
  rfl

/-- READ_ITEM's check 2 of R173. -/
theorem frameRefused_read : frameRefused opReadItem arg = (itemOf arg).isNone := rfl

/-- WRITE_ITEM's checks 2 and 3 of R173. -/
theorem frameRefused_write_of_none (hi : itemOf arg = none) : frameRefused opWriteItem arg = true := by
  simp [frameRefused, hi]

theorem frameRefused_of_unknown {op : Byte} (h : op ∉ knownOpcodes) : frameRefused op arg = true := if_pos h

/-- The QUEUE record with a head (R60). -/
theorem itemReply_queue_cons {e : Entry} {rest : List Entry} (hq : s.queue = e :: rest) :
    itemReply s .queue = .done s (queueBytes s.queue s.tables.watermark 0) := by
  rw [itemReply, hq]

/-- The QUEUE record with no head draws the free chip-select bits (R60, log 12). -/
theorem itemReply_queue_nil (hq : s.queue = []) :
    itemReply s .queue = .done s.draw (queueBytes [] s.tables.watermark (Config.absentHeadCs s.draws)) := by
  rw [itemReply, hq]

end Reads

/-! #### The records in numbers -/

/-- The byte that marks a head present and names its chip select (11.6). -/
theorem headByte_eq (k : Cs) : (1 : BitVec 1) ++ (0 : BitVec 5) ++ BitVec.ofNat 2 k = BitVec.ofNat 8 (128 + k) := by
  decide +revert

theorem absentHeadByte_eq (c : BitVec 2) : (0 : BitVec 6) ++ c = BitVec.ofNat 8 c.toNat := by
  decide +revert

/-- Five flags in the low bits of a byte (11.6, ALERT). -/
theorem fiveFlags_eq (a b c d e : Bool) :
    (0 : BitVec 3) ++ BitVec.ofBool a ++ BitVec.ofBool b ++ BitVec.ofBool c ++ BitVec.ofBool d ++ BitVec.ofBool e
      = BitVec.ofNat 8 (a.toNat * 16 + b.toNat * 8 + c.toNat * 4 + d.toNat * 2 + e.toNat) := by
  decide +revert

/-- Four flags in the low bits of a byte (11.6, RETENTION). -/
theorem fourFlags_eq (a b c d : Bool) :
    (0 : BitVec 4) ++ BitVec.ofBool a ++ BitVec.ofBool b ++ BitVec.ofBool c ++ BitVec.ofBool d
      = BitVec.ofNat 8 (a.toNat * 8 + b.toNat * 4 + c.toNat * 2 + d.toNat) := by
  decide +revert

theorem queueBytes_cons (e : Entry) (rest : List Entry) (watermark : Nat) (c : BitVec 2) :
    queueBytes (e :: rest) watermark c =
      [BitVec.ofNat 8 (e :: rest).length, BitVec.ofNat 8 watermark, BitVec.ofNat 8 (128 + e.cs),
        BitVec.ofNat 8 (e.phys.toNat / 65536), BitVec.ofNat 8 (e.phys.toNat / 256), BitVec.ofNat 8 e.phys.toNat, 0, 0] := by
  simp only [queueBytes, headByte_eq, addrBytes_eq]
  rfl

theorem queueBytes_nil (watermark : Nat) (c : BitVec 2) :
    queueBytes [] watermark c = [0, BitVec.ofNat 8 watermark, BitVec.ofNat 8 c.toNat, 0, 0, 0, 0, 0] := by
  simp only [queueBytes, absentHeadByte_eq]
  rfl

theorem FaultUnit.bytes_eq (u : FaultUnit) :
    u.bytes =
      [BitVec.ofNat 8 ((!u.log.isEmpty).toNat * 16 + u.causes.drop.toNat * 8 + u.causes.late.toNat * 4
          + u.causes.overrun.toNat * 2 + u.causes.retain.toNat),
        BitVec.ofNat 8 (u.enables.log.toNat * 16 + u.enables.drop.toNat * 8 + u.enables.late.toNat * 4
          + u.enables.overrun.toNat * 2 + u.enables.retain.toNat),
        BitVec.ofNat 8 u.dropped, BitVec.ofNat 8 (u.serial.toNat / 256), BitVec.ofNat 8 u.serial.toNat, 0, 0, 0] := by
  rw [FaultUnit.bytes, fiveFlags_eq, fiveFlags_eq, halfBytes_eq]
  rfl

theorem Retention.bytes_eq (r : Retention) :
    r.bytes =
      [r.state.code.setWidth 8,
        BitVec.ofNat 8 (r.participants[3].toNat * 8 + r.participants[2].toNat * 4 + r.participants[1].toNat * 2
          + r.participants[0].toNat), 0, 0, 0, 0, 0, 0] := by
  rw [Retention.bytes, fourFlags_eq]

/-- Settles O44: `itemOf` at each argument byte, and the record or the refusal that is committed. -/
theorem readItemReturnsTheRecord : Obligations.ReadItemReturnsTheRecord := by
  intro s f
  dsimp only
  refine ⟨fun i h => ?_, fun i h => ?_, fun k h => ?_, fun k h => ?_, fun e rest hq h => ?_, fun hq h => ?_, fun h => ?_,
    fun h => ?_, fun h => ?_, fun arg p hn => ?_, fun arg p harg h => ?_, fun op arg p hop h => ?_⟩
  · rw [exec_readItem (itemOf_region i)]
    exact commit_done h rfl
  · rw [exec_readItem (itemOf_profile i)]
    exact commit_done h rfl
  · rw [exec_readItem (itemOf_chipsel k)]
    exact commit_done h rfl
  · rw [exec_readItem (itemOf_bankwin k)]
    exact commit_done h rfl
  · rw [exec_readItem (show itemOf 0x50 = some .queue by decide), itemReply_queue_cons hq, hq, queueBytes_cons]
    exact commit_done h rfl
  · refine ⟨Config.absentHeadCs s.draws, ?_⟩
    rw [exec_readItem (show itemOf 0x50 = some .queue by decide), itemReply_queue_nil hq, queueBytes_nil]
    exact commit_done h rfl
  · rw [exec_readItem (show itemOf 0x60 = some .alert by decide), itemReply, FaultUnit.bytes_eq]
    exact commit_done h rfl
  · rw [exec_readItem (show itemOf 0x70 = some .retention by decide), itemReply, Retention.bytes_eq]
    cases s.retention.state <;> exact commit_done h rfl
  · rw [exec_readItem (show itemOf 0x80 = some .ident by decide), itemReply]
    exact commit_done h rfl
  · have hnone := itemOf_eq_none hn
    refine ⟨fun h => ?_, fun h => ?_, fun h => ?_⟩
    · rw [exec_readItem_refused hnone]
      exact commit_refuse h _ _
    · have hr : frameRefused opReadItem arg = true := by rw [frameRefused_read, hnone]; rfl
      exact (exec_unknownOpcode_short hr (by decide)).trans (commit_refuse h _ _)
    · rw [exec_unknownOpcode_write (frameRefused_write_of_none hnone)]
      exact commit_refuse h _ _
  · have hr : frameRefused opWriteItem arg = true := by
      obtain rfl | rfl := harg <;> decide
    rw [exec_unknownOpcode_write hr]
    exact commit_refuse h _ _
  · have hunknown : op ∉ knownOpcodes := hop
    have hw : op ≠ opWriteItem := fun heq => hunknown (heq ▸ by decide)
    have hread : op ≠ opReadItem := fun heq => hunknown (heq ▸ by decide)
    rw [exec_unknownOpcode_short (frameRefused_of_unknown hunknown) hw, if_neg hread]
    exact commit_refuse h _ _

end Sys2Proof.Machine

/-! ## Bank windows (O15) -/

namespace Sys2Proof.Machine

/-! ### One window -/

@[simp] theorem Window.capture_enable (x : Window) (w : WordAddr) (m : Lanes) (data : BusWord) :
    (x.capture w m data).enable = x.enable := by
  unfold Window.capture
  split <;> rfl

@[simp] theorem Window.capture_addr (x : Window) (w : WordAddr) (m : Lanes) (data : BusWord) :
    (x.capture w m data).addr = x.addr := by
  unfold Window.capture
  split <;> rfl

/-- D[5:0] is the L data byte modulo 64 (R25). -/
theorem setWidth6_toNat_eq_lower (data : BusWord) : (data.setWidth 6).toNat = (lower data).toNat % 64 := by
  simp only [lower, BitVec.toNat_setWidth, BitVec.extractLsb'_toNat, Nat.shiftRight_zero]
  omega

/-- An enabled window captures a write of its own word whose lanes include L (R25). -/
theorem Window.capture_bank_of_hit {x : Window} {w : WordAddr} {m : Lanes} (he : x.enable = true) (hm : m.hasL = true)
    (ha : x.addr = w) (data : BusWord) : (x.capture w m data).bank = data.setWidth 6 := by
  simp [Window.capture, he, hm, ha]

/-- A window that is disabled, of another word, or written in lane U alone keeps its bank number (R25). -/
theorem Window.capture_bank_of_miss {x : Window} {w : WordAddr} {m : Lanes}
    (h : ¬ (m.hasL = true ∧ x.enable = true ∧ x.addr = w)) (data : BusWord) : (x.capture w m data).bank = x.bank := by
  have hcond : ¬ (x.enable && m.hasL && x.addr == w) = true := by
    simp only [Bool.and_eq_true, beq_iff_eq]
    exact fun ⟨⟨he, hm⟩, ha⟩ => h ⟨hm, he, ha⟩
  rw [Window.capture, if_neg hcond]

/-! ### The four windows -/

/-- A faulted access captures nothing (R25, R27). -/
theorem Tables.capture_of_faulted (t : Tables) {d : Descriptor} (h : d.faulted = true) : t.capture d = t := by
  obtain ⟨k, hk⟩ := d.faulted_iff.1 h
  simp only [Tables.capture, hk]

/-- A write that does not fault is offered to every window (R25). -/
theorem Tables.capture_of_write (t : Tables) {d : Descriptor} {data : BusWord} (h : d.faulted = false) (hw : d.dir = .write)
    (hd : d.data = some data) :
    t.capture d = { t with windows := t.windows.map (·.capture d.word d.lanes data) } := by
  have hnot : ∀ k, d.disposition ≠ .fault k := fun k hk => by
    simp [d.faulted_iff.2 ⟨k, hk⟩] at h
  unfold Tables.capture
  rw [hw, hd]
  cases hdis : d.disposition with
  | fault k => exact absurd hdis (hnot k)
  | _ => rfl

/-! ### Presentations -/

/-- Only the capture changes the tables at a presentation (R25, R27). -/
theorem State.presentSp_tables (s : State) (t : SpTerminals) :
    (s.presentSp t).tables = s.tables.capture (s.spDecoded t) := by
  rw [State.presentSp_eq]
  cases hdis : (s.spDecoded t).disposition with
  | fault k => simp [Tables.capture_of_faulted _ ((Descriptor.faulted_iff _).2 ⟨k, hdis⟩)]
  | _ => simp

/-- A presented write carries the word on D (R64). -/
theorem State.spDecoded_data_of_write (s : State) {t : SpTerminals} (h : t.rd = false) :
    (s.spDecoded t).data = some t.d := by
  rw [State.spDecoded, Tables.decode_data]
  simp [spPresented, spDirection, h]

/-- Each window after the capture of a presented access: a write that does not fault reaches it, any other access leaves it
(R25, R27). -/
theorem State.capture_spDecoded_window (s : State) (t : SpTerminals) (k : Fin 4) :
    (s.tables.capture (s.spDecoded t)).windows[k] =
      if (s.spDecoded t).faulted = false ∧ t.rd = false then s.tables.windows[k].capture t.a (spLanes t) t.d
      else s.tables.windows[k] := by
  have hword : (s.spDecoded t).word = t.a := Tables.decode_word ..
  have hlanes : (s.spDecoded t).lanes = spLanes t := Tables.decode_lanes ..
  have hdir := s.spDecoded_dir t
  cases hf : (s.spDecoded t).faulted with
  | true => simp [Tables.capture_of_faulted _ hf]
  | false =>
    cases hr : t.rd with
    | true =>
      rw [hr, if_pos rfl] at hdir
      simp [Tables.capture_of_read _ _ hdir]
    | false =>
      rw [hr, if_neg Bool.false_ne_true] at hdir
      simp [Tables.capture_of_write _ hf hdir (s.spDecoded_data_of_write hr), hword, hlanes]

/-- Settles O15: the tables after a presentation are its capture's, and a window is reached or left by
`State.capture_spDecoded_window`. -/
theorem captureSetsTheBankNumber : Obligations.CaptureSetsTheBankNumber := by
  intro s t hp
  refine ⟨_, execSpPresentation_of_presented hp, ?_⟩
  rw [State.decide_tables, State.presentSp_tables]
  refine ⟨Tables.capture_regions .., Tables.capture_chipsels .., Tables.capture_profiles .., Tables.capture_watermark .., fun k => ?_⟩
  rw [State.capture_spDecoded_window]
  by_cases hreach : (s.spDecoded t).faulted = false ∧ t.rd = false
  · rw [if_pos hreach]
    obtain ⟨hf, hr⟩ := hreach
    refine ⟨Window.capture_enable .., Window.capture_addr .., fun ⟨_, _, hl, he, ha⟩ => ?_, fun hmiss => ?_⟩
    · rw [Window.capture_bank_of_hit he hl ha, setWidth6_toNat_eq_lower]
    · exact Window.capture_bank_of_miss (fun hhit => hmiss ⟨hf, hr, hhit⟩) t.d
  · rw [if_neg hreach]
    exact ⟨rfl, rfl, fun ⟨hf, hr, _⟩ => absurd ⟨hf, hr⟩ hreach, fun _ => rfl⟩

end Sys2Proof.Machine

/-! ## The Posted Write Queue's own operations (O17) -/

namespace Sys2Proof.Machine

/-! ### The offer -/

/-- An empty queue takes every write (R37). -/
theorem offer_nil (n : Entry) : offer [] n = some [n] := rfl

/-- A queue with a tail merges the write into it, appends it, or does not take it (R36 to R38). -/
theorem offer_concat (q : List Entry) (e n : Entry) :
    offer (q ++ [e]) n =
      if mergesInto e n then some (q ++ [e.merge n])
      else if (q ++ [e]).length < Config.queueCapacity then some (q ++ [e, n]) else none := by
  unfold offer
  rw [List.getLast?_concat, List.dropLast_concat, List.append_assoc]
  rfl

/-- The tail admits the merge of a write to its own word while it is not on the channel (R36). -/
theorem mergesInto_iff (e n : Entry) : mergesInto e n = true ↔ e.cs = n.cs ∧ e.phys = n.phys ∧ e.onChannel = false := by
  simp [mergesInto, and_assoc]

/-- Settles O17: the three branches of `offer_concat`, and the empty queue. -/
theorem offerMergesAppendsOrHolds : Obligations.OfferMergesAppendsOrHolds := by
  refine ⟨fun q e n hcs hphys hch => ?_, fun q e n hno => ⟨fun hlen => ?_, fun hlen => ?_⟩, offer_nil⟩
  · rw [offer_concat, if_pos ((mergesInto_iff e n).2 ⟨hcs, hphys, hch⟩)]
    rfl
  · rw [offer_concat, if_neg (mt (mergesInto_iff e n).1 hno), if_pos (show _ < Config.queueCapacity from hlen)]
  · rw [offer_concat, if_neg (mt (mergesInto_iff e n).1 hno), if_neg (show ¬ _ < Config.queueCapacity from Nat.not_lt.2 hlen)]

/-- What the offer leaves: the tail merged, or the write appended (R36, R37). -/
theorem offer_eq_some {q q' : List Entry} {n : Entry} (h : offer q n = some q') :
    (∃ init e, q = init ++ [e] ∧ mergesInto e n = true ∧ q' = init ++ [e.merge n]) ∨ q' = q ++ [n] := by
  obtain rfl | ⟨init, e, rfl⟩ := q.eq_nil_or_concat'
  · cases h
    exact .inr rfl
  · rw [offer_concat] at h
    split at h
    · rename_i hm
      cases h
      exact .inl ⟨init, e, rfl, hm, rfl⟩
    · split at h
      · cases h
        exact .inr (by simp)
      · cases h

end Sys2Proof.Machine

/-! ## The System Port's part of a completion -/

namespace Sys2Proof.Machine

/-- The DEVICE_TIMEOUT record of a System Port transaction that timed out (R75). -/
def State.noteTimeout (s : State) (w : WordTxn) (d : Descriptor) : State :=
  if w.timedOut then s.deliver (d.spOccurrence .deviceTimeout) else s

@[simp] theorem State.noteTimeout_tables (s : State) (w : WordTxn) (d : Descriptor) : (s.noteTimeout w d).tables = s.tables := by
  unfold State.noteTimeout
  split <;> rfl

@[simp] theorem State.noteTimeout_queue (s : State) (w : WordTxn) (d : Descriptor) : (s.noteTimeout w d).queue = s.queue := by
  unfold State.noteTimeout
  split <;> rfl

@[simp] theorem State.noteTimeout_sp (s : State) (w : WordTxn) (d : Descriptor) : (s.noteTimeout w d).sp = s.sp := by
  unfold State.noteTimeout
  split <;> rfl

@[simp] theorem State.noteTimeout_ap (s : State) (w : WordTxn) (d : Descriptor) : (s.noteTimeout w d).ap = s.ap := by
  unfold State.noteTimeout
  split <;> rfl

@[simp] theorem State.noteTimeout_channel (s : State) (w : WordTxn) (d : Descriptor) : (s.noteTimeout w d).channel = s.channel := by
  unfold State.noteTimeout
  split <;> rfl

/-- The port after the completion of a withdrawn access, before a deferred presentation is taken (R79, R82). -/
def SysPort.dropped (p : SysPort) (w : WordTxn) (d : Descriptor) (lockN : Bool) : SysPort :=
  { p with access := .idle, lock := lockAfter p.lock true d w.timedOut lockN, deferred := false }

/-- The answer to an access that was not withdrawn (R73 to R75). -/
def answerOf (w : WordTxn) (d : Descriptor) : SpAccess :=
  if w.timedOut then .answered .abort (abortWord d) d else .answered .data (readWord d w.taken) d

/-- The completion of a withdrawn access drops it, and takes a deferred presentation that still stands (R82). -/
theorem State.completeSp_of_withdrawn (s : State) (w : WordTxn) (d : Descriptor) (t : SpTerminals) :
    s.completeSp w true d t =
      if s.sp.deferred && t.presents then ((s.noteTimeout w d).setSp (s.sp.dropped w d t.lock)).presentSp t
      else (s.noteTimeout w d).setSp (s.sp.dropped w d t.lock) := by
  have hsp := s.noteTimeout_sp w d
  unfold State.completeSp
  rw [← State.noteTimeout]
  dsimp only
  rw [hsp]
  rfl

/-- The completion of an access that was not withdrawn answers it (R70, R73 to R75, R77). -/
theorem State.completeSp_of_not_withdrawn (s : State) (w : WordTxn) (d : Descriptor) (t : SpTerminals) :
    s.completeSp w false d t =
      (s.noteTimeout w d).setSp
        { s.sp with access := answerOf w d, lock := lockAfter s.sp.lock false d w.timedOut t.lock } := by
  have hsp := s.noteTimeout_sp w d
  unfold State.completeSp answerOf
  rw [← State.noteTimeout]
  dsimp only
  rw [hsp, if_neg Bool.false_ne_true]
  cases w.timedOut <;> rfl

end Sys2Proof.Machine

/-! ## The Management Port's commands that reach no other block (used for the invariants of O55 and O58) -/

namespace Sys2Proof.Machine

/-- The queue, the ports, the channel, the slices, the Retention Controller and the chip-select descriptors are the same. -/
structure State.SameUnits (s s' : State) : Prop where
  chipsels : s'.tables.chipsels = s.tables.chipsels
  queue : s'.queue = s.queue
  sp : s'.sp = s.sp
  ap : s'.ap = s.ap
  channel : s'.channel = s.channel
  slices : s'.slices = s.slices
  retention : s'.retention = s.retention

namespace State.SameUnits

theorem refl (s : State) : s.SameUnits s := ⟨rfl, rfl, rfl, rfl, rfl, rfl, rfl⟩

theorem setTables (s : State) {x : Tables} (h : x.chipsels = s.tables.chipsels) : s.SameUnits (s.setTables x) :=
  ⟨h, rfl, rfl, rfl, rfl, rfl, rfl⟩

theorem setFaults (s : State) (x : FaultUnit) : s.SameUnits (s.setFaults x) := ⟨rfl, rfl, rfl, rfl, rfl, rfl, rfl⟩

theorem setMp (s : State) (x : MgmtPort) : s.SameUnits (s.setMp x) := ⟨rfl, rfl, rfl, rfl, rfl, rfl, rfl⟩

theorem draw (s : State) : s.SameUnits s.draw := ⟨rfl, rfl, rfl, rfl, rfl, rfl, rfl⟩

theorem commit {s : State} (bytes : List Byte) {r : Reply} (h : s.SameUnits r.state) : s.SameUnits (s.commit bytes r) := by
  unfold State.commit
  split
  · obtain ⟨hc, hq, hsp, hap, hch, hsl, hr⟩ := h
    exact ⟨hc, hq, hsp, hap, hch, hsl, hr⟩
  · exact refl s

end State.SameUnits

/-- The Management Port's commands that reach no other block: the frames, the records read, and the writes to the regions, profiles,
bank windows, watermark, log and alert (11.2). -/
def Instr.keepsUnits : Instr → Bool
  | .frameStart | .frameEnd | .unknownOpcode .. | .getSummary _ | .readItem _ | .writeRegion .. | .writeProfile .. | .writeBankwin ..
  | .writeQueueWatermark _ | .writeAlertEnables _ | .popFault _ | .peekFault _ | .clearCauses .. => true
  | _ => false

theorem itemReply_keeps_units (s : State) (i : Item) : s.SameUnits (itemReply s i).state := by
  cases i
  case queue =>
    unfold itemReply
    dsimp only
    split
    · exact .draw s
    · exact .refl s
  all_goals exact .refl s

theorem exec_keeps_units {c : Instr} (hc : Instr.keepsUnits c = true) {s s' : State} (hx : exec c s = .next s') :
    s.SameUnits s' := by
  cases c <;> injection hx with hx <;> subst hx
  case frameStart =>
    split
    · exact .setMp s _
    · exact .refl s
  case frameEnd =>
    split
    · exact .refl s
    · split <;> exact .setMp s _
  case unknownOpcode =>
    split
    · exact .commit _ (.refl s)
    · exact .refl s
  case getSummary =>
    refine .commit _ ?_
    unfold summaryReply
    split
    · exact .draw s
    · exact .refl s
  case readItem arg =>
    refine .commit _ ?_
    split
    · exact itemReply_keeps_units s _
    · exact .refl s
  case writeRegion i p =>
    refine .commit _ ?_
    unfold regionReply
    split
    · exact .refl s
    · exact .setTables s rfl
  case writeProfile i p =>
    refine .commit _ ?_
    cases profileOf p
    · exact .refl s
    · exact .setTables s rfl
  case writeBankwin k p =>
    refine .commit _ ?_
    cases windowOf p
    · exact .refl s
    · exact .setTables s rfl
  case writeQueueWatermark p =>
    refine .commit _ ?_
    unfold watermarkReply
    split
    · exact .setTables s rfl
    · exact .refl s
  case peekFault => exact .commit _ (.refl s)
  case writeAlertEnables | popFault | clearCauses => exact .commit _ (.setFaults s _)
  all_goals cases hc

end Sys2Proof.Machine

/-! ## Queue entries stay on posting chip selects (O55) -/

namespace Sys2Proof.Machine

/-- A posted write's chip select is of class SRAM or DRAM (R12). -/
theorem Tables.decode_posted_class {t : Tables} {lock : Option Lock} {p : Presented} {tg : Target}
    (h : (t.decode lock p).disposition = .posted) (ht : (t.decode lock p).target = some tg) : t.chipsels[tg.cs].cls.posts := by
  rw [Tables.decode_target, Option.map_eq_some_iff] at ht
  obtain ⟨i, hsel, rfl⟩ := ht
  have hpass : decodeCheck p t.regions[i] t.chipsels[t.regions[i].cs].cls = none := by
    rw [← Tables.decode_faulted_eq_false_iff hsel lock]
    simp [Descriptor.faulted, h]
  rw [Tables.decode_disposition_of_pass hsel hpass] at h
  unfold dispositionOf at h
  split at h
  · cases h
  · split at h
    · cases h
    · split at h <;> cases h
  · split at h
    · cases h
    · split at h
      · rename_i hposted
        exact hposted.2
      · cases h

/-- An entry that the offer leaves is on the chip select of an entry that was there, or of the write (R36, R37). -/
theorem offer_mem_cs {q q' : List Entry} {n e : Entry} (h : offer q n = some q') (he : e ∈ q') :
    (∃ x ∈ q, x.cs = e.cs) ∨ e.cs = n.cs := by
  obtain ⟨init, x, rfl, -, rfl⟩ | rfl := offer_eq_some h
  · obtain he | he := List.mem_append.1 he
    · exact .inl ⟨e, List.mem_append_left _ he, rfl⟩
    · rw [List.mem_singleton.1 he]
      exact .inl ⟨x, by simp, rfl⟩
  · obtain he | he := List.mem_append.1 he
    · exact .inl ⟨e, he, rfl⟩
    · rw [List.mem_singleton.1 he]
      exact .inr rfl

/-- The head's marker moves no entry to another chip select (R45). -/
theorem markHead_mem_cs {q : List Entry} {e : Entry} (he : e ∈ markHead q) : ∃ x ∈ q, x.cs = e.cs := by
  cases q with
  | nil => cases he
  | cons x rest =>
    obtain rfl | he := List.mem_cons.1 he
    · exact ⟨x, by simp, rfl⟩
    · exact ⟨e, List.mem_cons_of_mem _ he, rfl⟩

end Sys2Proof.Machine

namespace Sys2Proof.Machine

/-! ### What stops a class change -/

/-- A write held in FULL names its chip select (R120). -/
theorem State.fullHeldFor_of_fullHeld (s : State) {d : Descriptor} {t : Target} (hd : d ∈ s.sp.fullHeld) (ht : t ∈ d.target) :
    s.fullHeldFor t.cs = true := by
  unfold SysPort.fullHeld at hd
  split at hd
  · next x hx =>
    cases hd
    rw [Option.mem_def] at ht
    simp [State.fullHeldFor, hx, ht]
  · cases hd

theorem SysPort.fullHeld_of_not_inHold {p : SysPort} (h : p.inHold = false) : p.fullHeld = none := by
  unfold SysPort.fullHeld
  split
  · next d hd => simp [SysPort.inHold, hd] at h
  · rfl

/-- A descriptor that passes R119's checks keeps the class of every chip select whose class change R120 refuses. -/
theorem State.class_kept_of_chipselCheck {s : State} {k j : Cs} {c : ChipSel} (hc : s.chipselCheck k c = none)
    (hj : j = k → s.classChangeRefused k = true) : (s.tables.chipsels.set k c)[j].cls = s.tables.chipsels[j].cls := by
  have hkept : c.cls = s.tables.chipsels[k].cls ∨ s.classChangeRefused k = false := by
    unfold State.chipselCheck at hc
    dsimp only at hc
    by_contra hno
    have hrefused : (c.cls != s.tables.chipsels[k].cls && s.classChangeRefused k) = true := by simpa using hno
    rw [if_pos hrefused] at hc
    split at hc
    · cases hc
    · split at hc <;> cases hc
  rw [Fin.getElem_fin, Vector.getElem_set]
  split
  · next hk =>
    obtain rfl : k = j := Fin.ext hk
    simpa [hj rfl] using hkept
  · rfl

/-! ### One lemma per operation of the state -/

namespace State.QueueTargetsPosting

variable {s : State}

theorem of_eq {s' : State} (h : s.QueueTargetsPosting) (hq : s'.queue = s.queue) (hs : s'.sp.access = s.sp.access)
    (hc : s'.tables.chipsels = s.tables.chipsels) : s'.QueueTargetsPosting := by
  have hf : s'.sp.fullHeld = s.sp.fullHeld := by rw [SysPort.fullHeld, hs, SysPort.fullHeld]
  unfold State.QueueTargetsPosting
  rw [hq, hf, hc]
  exact h

theorem of_sameUnits {s' : State} (h : s.QueueTargetsPosting) (hu : s.SameUnits s') : s'.QueueTargetsPosting :=
  h.of_eq hu.queue (congrArg _ hu.sp) hu.chipsels

theorem setQueue (h : s.QueueTargetsPosting) {q : List Entry} (hq : ∀ e ∈ q, ∃ x ∈ s.queue, x.cs = e.cs) :
    (s.setQueue q).QueueTargetsPosting := by
  obtain ⟨hqueue, hfull⟩ := h
  refine ⟨fun e he => ?_, hfull⟩
  obtain ⟨x, hx, hcs⟩ := hq e he
  simpa only [State.setQueue_tables, hcs] using hqueue x hx

/-- An access that is not a write held in FULL adds no target. -/
theorem setAccess (h : s.QueueTargetsPosting) {a : SpAccess} (ha : ∀ d, a ≠ .hold .full d) :
    (s.setAccess a).QueueTargetsPosting := by
  obtain ⟨hqueue, -⟩ := h
  refine ⟨hqueue, fun d hd => ?_⟩
  unfold SysPort.fullHeld at hd
  split at hd
  · next x hx => exact absurd hx (ha x)
  · cases hd

theorem endLock (h : s.QueueTargetsPosting) : s.endLock.QueueTargetsPosting := h.of_eq rfl rfl rfl

theorem deliver (h : s.QueueTargetsPosting) (o : Occurrence) : (s.deliver o).QueueTargetsPosting := h.of_eq rfl rfl rfl

theorem setTables (h : s.QueueTargetsPosting) {x : Tables} (hc : x.chipsels = s.tables.chipsels) :
    (s.setTables x).QueueTargetsPosting := h.of_eq rfl rfl hc

theorem setTxn (h : s.QueueTargetsPosting) (t : Option Txn) : (s.setTxn t).QueueTargetsPosting := h.of_eq rfl rfl rfl

theorem setSlice (h : s.QueueTargetsPosting) (k : Cs) (x : Slice) : (s.setSlice k x).QueueTargetsPosting := h.of_eq rfl rfl rfl

theorem setRetention (h : s.QueueTargetsPosting) (x : Retention) : (s.setRetention x).QueueTargetsPosting := h.of_eq rfl rfl rfl

/-! #### The wake condition, the Retention Controller and the Arbiter -/

theorem rewakeSp (h : s.QueueTargetsPosting) : s.rewakeSp.QueueTargetsPosting := by
  unfold State.rewakeSp
  split
  · split
    · exact h
    · exact h.setAccess (by simp)
  · split
    · exact h.setAccess (by simp)
    · exact h
  · exact h

theorem rewake (h : s.QueueTargetsPosting) : s.rewake.QueueTargetsPosting :=
  h.rewakeSp.of_eq (by simp [State.rewake]) (by simp [State.rewake]) (by simp)

theorem sequenceBegin (h : s.QueueTargetsPosting) : s.sequenceBegin.QueueTargetsPosting := h.of_eq (by simp) (by simp) (by simp)

theorem sequenceEnd (h : s.QueueTargetsPosting) : s.sequenceEnd.QueueTargetsPosting := h.of_eq (by simp) (by simp) (by simp)

theorem resumeEnd (h : s.QueueTargetsPosting) : s.resumeEnd.QueueTargetsPosting := h.of_eq (by simp) (by simp) (by simp)

theorem settle (h : s.QueueTargetsPosting) : s.settle.QueueTargetsPosting :=
  h.rewake.sequenceBegin.rewake.sequenceEnd.resumeEnd.rewake

theorem autoResume (h : s.QueueTargetsPosting) (d : Descriptor) : (s.autoResume d).QueueTargetsPosting :=
  h.of_eq (by simp) (by simp) (by simp)

theorem grant (h : s.QueueTargetsPosting) (r : Request) : (s.grant r).QueueTargetsPosting := by
  match r with
  | .refresh k => exact h.of_eq rfl rfl rfl
  | .command k .enter => exact h.of_eq rfl rfl rfl
  | .command k .exit => exact h.of_eq rfl rfl rfl
  | .ap d t => exact h.of_eq rfl rfl rfl
  | .sp d t => exact (h.setAccess (a := .channel false d) (by simp)).of_eq rfl rfl rfl
  | .head e => exact (h.setQueue fun _ => markHead_mem_cs).of_eq rfl rfl rfl

theorem decide (h : s.QueueTargetsPosting) : s.decide.QueueTargetsPosting := by
  unfold State.decide
  split
  · exact h
  · split
    · exact h.grant _
    · exact h

theorem conclude (h : s.QueueTargetsPosting) : s.conclude.QueueTargetsPosting := h.settle.decide

/-! #### The System Port -/

/-- A write offered for a posting chip select is queued there, or held in FULL for it (R36 to R38). -/
theorem offerPosted (h : s.QueueTargetsPosting) {d : Descriptor} {t : Target} (hd : d.target = some t)
    (hc : s.tables.chipsels[t.cs].cls.posts) : (s.offerPosted d t).QueueTargetsPosting := by
  obtain ⟨hqueue, hfull⟩ := h
  unfold State.offerPosted
  split
  · rename_i q hq
    have hposted : (s.setQueue q).QueueTargetsPosting := by
      refine ⟨fun e he => ?_, hfull⟩
      obtain ⟨x, hx, hcs⟩ | hcs := offer_mem_cs hq he
      · simpa only [State.setQueue_tables, hcs] using hqueue x hx
      · simpa only [State.setQueue_tables, hcs, newEntry] using hc
    exact hposted.setAccess (by simp)
  · refine ⟨hqueue, fun x hx t' ht' => ?_⟩
    cases hx
    cases hd.symm.trans ht'
    exact hc

theorem placeSp (h : s.QueueTargetsPosting) {d : Descriptor}
    (hc : ∀ t, d.disposition = .posted → d.target = some t → s.tables.chipsels[t.cs].cls.posts) :
    (s.placeSp d).QueueTargetsPosting := by
  unfold State.placeSp
  split
  · next t hd ht => exact h.offerPosted ht (hc t hd ht)
  · split
    · exact h.setAccess (by simp)
    · exact h.setAccess (by split <;> simp)

theorem handOnSp (h : s.QueueTargetsPosting) {d : Descriptor}
    (hc : ∀ t, d.disposition = .posted → d.target = some t → s.tables.chipsels[t.cs].cls.posts) :
    (s.handOnSp d).QueueTargetsPosting := by
  unfold State.handOnSp
  split
  · exact h.setAccess (by simp)
  · exact (h.placeSp hc).autoResume d

theorem presentSp (h : s.QueueTargetsPosting) (t : SpTerminals) : (s.presentSp t).QueueTargetsPosting := by
  have hc (tg : Target) (hd : (s.spDecoded t).disposition = .posted) (ht : (s.spDecoded t).target = some tg) :
      (s.tables.capture (s.spDecoded t)).chipsels[tg.cs].cls.posts := by
    rw [Tables.capture_chipsels]
    exact Tables.decode_posted_class hd ht
  rw [State.presentSp_eq]
  split
  · exact (h.endLock.deliver _).setAccess (by simp)
  · exact (h.setTables (Tables.capture_chipsels ..)).handOnSp hc
  · exact (h.endLock.setTables (Tables.capture_chipsels ..)).handOnSp hc

theorem completeSp (h : s.QueueTargetsPosting) (w : WordTxn) (withdrawn : Bool) (d : Descriptor) (t : SpTerminals) :
    (s.completeSp w withdrawn d t).QueueTargetsPosting := by
  have noted (a : SpAccess) (l : Option Lock) (x : Bool) (ha : ∀ d, a ≠ .hold .full d) :
      ((s.noteTimeout w d).setSp { s.sp with access := a, lock := l, deferred := x }).QueueTargetsPosting :=
    (h.setAccess ha).of_eq (by simp) rfl (by simp)
  cases withdrawn with
  | true =>
    rw [State.completeSp_of_withdrawn]
    have hdropped : ((s.noteTimeout w d).setSp (s.sp.dropped w d t.lock)).QueueTargetsPosting := noted _ _ _ (by simp)
    split
    · exact hdropped.presentSp t
    · exact hdropped
  | false =>
    rw [State.completeSp_of_not_withdrawn]
    refine noted (answerOf w d) _ _ ?_
    unfold answerOf
    split <;> simp

theorem endAccess (h : s.QueueTargetsPosting) : s.endAccess.QueueTargetsPosting := by
  unfold State.endAccess
  split
  · exact h
  · exact h.setAccess (by simp)
  · dsimp only
    split
    · exact ((h.deliver _).endLock.setAccess (by simp)).decide
    · exact ((h.deliver _).setAccess (by simp)).decide
  · exact h.setAccess (by simp)
  · exact h.of_eq rfl rfl rfl

/-! #### The Auxiliary Port -/

theorem presentAp (h : s.QueueTargetsPosting) (t : ApTerminals) : (s.presentAp t).QueueTargetsPosting :=
  h.of_eq (by simp) (by simp) (by simp)

theorem takeBeat (h : s.QueueTargetsPosting) (b : BusWord) : (s.takeBeat b).QueueTargetsPosting :=
  h.of_eq (by simp) (by simp) (by simp)

theorem completeAp (h : s.QueueTargetsPosting) (w : WordTxn) : (s.completeAp w).QueueTargetsPosting :=
  h.of_eq (by simp) (by simp) (by simp)

/-! #### Removal of the head -/

/-- The write that was held in FULL keeps its chip select when it is offered again (R38). -/
theorem releaseSp (h : s.QueueTargetsPosting) : s.releaseSp.QueueTargetsPosting := by
  obtain ⟨-, hfull⟩ := id h
  unfold State.releaseSp
  split
  · next d hacc =>
    split
    · next t ht => exact h.offerPosted ht (hfull d (by simp [SysPort.fullHeld, hacc]) t ht)
    · exact h
  · split
    · exact h
    · exact (h.setAccess (by split <;> simp)).autoResume _
  · exact h

theorem releaseAp (h : s.QueueTargetsPosting) : s.releaseAp.QueueTargetsPosting := h.of_eq (by simp) (by simp) (by simp)

theorem removeHead (h : s.QueueTargetsPosting) {e : Entry} {rest : List Entry} (hq : s.queue = e :: rest) (timedOut : Bool) :
    (s.removeHead e rest timedOut).QueueTargetsPosting := by
  have hrest : (s.setQueue rest).QueueTargetsPosting :=
    h.setQueue fun x hx => ⟨x, hq ▸ List.mem_cons_of_mem _ hx, rfl⟩
  unfold State.removeHead
  dsimp only
  split
  · exact (hrest.deliver _).releaseSp.releaseAp
  · exact hrest.releaseSp.releaseAp

/-! #### Commits -/

theorem commit (h : s.QueueTargetsPosting) (bytes : List Byte) {r : Reply} (hr : r.state.QueueTargetsPosting) :
    (s.commit bytes r).QueueTargetsPosting := by
  unfold State.commit
  split
  · exact hr.of_eq rfl rfl rfl
  · exact h

/-- A class change is refused while an entry or a write held in FULL names the chip select (R120). -/
theorem setChipsel (h : s.QueueTargetsPosting) {k : Cs} {c : ChipSel} (hc : s.chipselCheck k c = none) :
    (s.setTables { s.tables with chipsels := s.tables.chipsels.set k c }).QueueTargetsPosting := by
  obtain ⟨hqueue, hfull⟩ := h
  refine ⟨fun e he => ?_, fun d hd t ht => ?_⟩
  · have hcls := State.class_kept_of_chipselCheck hc (j := e.cs) fun hk => by
      have : s.queue.any (·.cs == k) = true := List.any_eq_true.2 ⟨e, he, by simp [hk]⟩
      simp [State.classChangeRefused, this]
    rw [State.setTables_tables, hcls]
    exact hqueue e he
  · have hcls := State.class_kept_of_chipselCheck hc (j := t.cs) fun hk => by
      simp [State.classChangeRefused, s.fullHeldFor_of_fullHeld hd ht, ← hk]
    rw [State.setTables_tables, hcls]
    exact hfull d hd t ht

theorem sliceEffects (h : s.QueueTargetsPosting) (k : Cs) (old new : ChipSel) :
    (s.sliceEffects k old new).QueueTargetsPosting := by
  unfold State.sliceEffects
  split
  · exact h.of_eq rfl rfl rfl
  · split <;> exact h.of_eq rfl rfl rfl

end State.QueueTargetsPosting

/-! ### Every command keeps the targets -/

/-- A queue with no entry and no write held in FULL has no target (R34). -/
theorem State.queueTargetsPosting_of_empty {s : State} (hq : s.queue = []) (hf : s.sp.fullHeld = none) :
    s.QueueTargetsPosting := by
  unfold State.QueueTargetsPosting
  rw [hq, hf]
  exact ⟨fun _ he => absurd he List.not_mem_nil, forall_mem_none⟩

section Replies

variable {s : State}

theorem chipselReply_keeps_targets (h : s.QueueTargetsPosting) (k : Cs) (c : ChipSel) :
    (chipselReply s k c).state.QueueTargetsPosting := by
  unfold chipselReply
  split
  · exact h
  · rename_i hc
    rw [Reply.done_state]
    exact ((h.setChipsel hc).sliceEffects k _ c).conclude

theorem configResetReply_keeps_targets (h : s.QueueTargetsPosting) : (configResetReply s).state.QueueTargetsPosting := by
  unfold configResetReply
  split
  · rename_i hquiet
    simp only [State.quiescent, Bool.and_eq_true, List.isEmpty_iff, Bool.not_eq_true'] at hquiet
    obtain ⟨⟨⟨⟨⟨hq, -⟩, hhold⟩, -⟩, -⟩, -⟩ := hquiet
    exact State.queueTargetsPosting_of_empty hq (SysPort.fullHeld_of_not_inHold hhold)
  · exact h

theorem enterReply_keeps_targets (h : s.QueueTargetsPosting) : (enterReply s).state.QueueTargetsPosting := by
  unfold enterReply
  split
  · rw [Reply.done_state]
    exact (h.setRetention _).conclude
  all_goals exact h

theorem exitReply_keeps_targets (h : s.QueueTargetsPosting) : (exitReply s).state.QueueTargetsPosting := by
  unfold exitReply
  split
  · exact h
  · split
    · exact h
    · exact h.setRetention _
  · rw [Reply.done_state]
    exact (h.setRetention _).conclude
  · exact h

end Replies

end Sys2Proof.Machine

namespace Sys2Proof.Machine

/-- Every command keeps the targets: a System Port presentation adds one of a posting class, WRITE_CHIPSEL changes no class that a
target has, and CONFIG_RESET finds no target. -/
theorem exec_keeps_queueTargetsPosting (c : Instr) {s s' : State} (h : s.QueueTargetsPosting) (hx : exec c s = .next s') :
    s'.QueueTargetsPosting := by
  have hunits (hc : Instr.keepsUnits c = true) := exec_keeps_units hc hx
  cases c <;> injection hx with hx <;> subst hx
  case spPresentation t =>
    split
    · exact (h.presentSp t).decide
    · exact h
  case spAccessEnd =>
    split
    · exact h
    · exact h.endAccess
  case lockNRelease =>
    split
    · exact h
    · exact h.endLock.decide
  case apPresentation t =>
    split
    · exact (h.presentAp t).decide
    · split
      · exact h
      · exact h.of_eq rfl rfl rfl
  case writeBeat d =>
    split
    · exact (h.takeBeat d).decide
    · exact h
  case spTransactionCompletion t =>
    split
    · split
      · exact ((h.setTxn none).completeSp _ _ _ t).conclude
      · exact h
    · exact h
  case drainCompletion =>
    split
    · rename_i w e rest _ hq
      split
      · exact ((h.setTxn none).removeHead hq w.timedOut).conclude
      · exact h
    · exact h
  case burstCompletion =>
    split
    · split
      · exact ((h.setTxn none).completeAp _).conclude
      · exact h
    · exact h
  case refreshCompletion =>
    split
    · exact ((h.setTxn none).setSlice _ _).conclude
    · exact h
  case selfEnterCompletion | selfExitCompletion =>
    split
    · exact (((h.setTxn none).setSlice _ _).setRetention _).conclude
    · exact h
  case intervalExpiry k =>
    dsimp only
    split
    · split
      · exact (h.setSlice k _).decide
      · exact ((h.setSlice k _).deliver _).decide
    · exact h
  case exitTimerExpiry k =>
    dsimp only
    split
    · exact (h.setSlice k _).conclude
    · exact h
  case frameStart | frameEnd | unknownOpcode | getSummary | readItem | writeRegion | writeProfile | writeBankwin
      | writeQueueWatermark | writeAlertEnables | popFault | peekFault | clearCauses => exact h.of_sameUnits (hunits rfl)
  case writeChipsel k p => exact h.commit _ (chipselReply_keeps_targets h k _)
  case enterRetention => exact h.commit _ (enterReply_keeps_targets h)
  case exitRetention => exact h.commit _ (exitReply_keeps_targets h)
  case configReset => exact h.commit _ (configResetReply_keeps_targets h)
  case pinReset => exact State.queueTargetsPosting_of_empty rfl rfl
  all_goals (repeat' split) <;> exact h.of_eq (by simp) (by simp) (by simp)

/-- Settles O55: the idle step changes no target and no class, and every command keeps them. -/
theorem stepKeepsQueueOnPostingChipSelects : Obligations.StepKeepsQueueOnPostingChipSelects := by
  intro s s' h hx
  unfold step at hx
  split at hx
  · cases hx
    exact h.of_eq (by simp) (by simp) (by simp)
  · rename_i c rest _
    have hrest : ({ s with pending := rest } : State).QueueTargetsPosting := h
    exact exec_keeps_queueTargetsPosting c hrest hx

end Sys2Proof.Machine

/-! ## The Channel Arbiter's requests, decision and grant (O33, O35) -/

namespace Sys2Proof.Machine

/-! ### The requests that stand -/

section Requests

variable {s : State} {l : Level} {k : Cs} {d : Descriptor} {t : Target} {e : Entry}

/-- A slice's one request: its refresh, or else the command issued for it (R103, R105). -/
theorem State.mem_sliceRequests (x : Level × Request) :
    x ∈ s.sliceRequests k ↔
      (∃ l, s.refreshLevel k = some l ∧ x = (l, .refresh k))
        ∨ (s.refreshLevel k = none ∧ ∃ c, s.retention.issued[k] = some c ∧ x = (.sliceUrgent, .command k c)) := by
  unfold State.sliceRequests
  cases s.refreshLevel k <;> cases s.retention.issued[k] <;> simp

/-- The list of requests by its parts: the slices, the Auxiliary Port, the System Port and the head (R103). -/
theorem State.mem_requests (x : Level × Request) :
    x ∈ s.requests ↔
      (∃ k, x ∈ s.sliceRequests k)
        ∨ (∃ d t, s.apRequest = some (d, t) ∧ x = (s.apLevel, .ap d t))
        ∨ (∃ d t, s.spRequest = some (d, t) ∧ x = (.sp, .sp d t))
        ∨ ∃ e, s.headRequest = some e ∧ x = (s.headLevel, .head e) := by
  simp only [State.requests, List.mem_append, Option.mem_toList, Option.map_eq_some_iff, Fin.exists_fin_succ, Prod.exists,
    IsEmpty.exists_iff, or_assoc, or_false, eq_comm (a := x)]
  rfl

theorem State.mem_requests_refresh : (l, Request.refresh k) ∈ s.requests ↔ s.refreshLevel k = some l := by
  simp [State.mem_requests, State.mem_sliceRequests]

theorem State.mem_requests_command {c : SelfCmd} :
    (l, Request.command k c) ∈ s.requests ↔
      s.refreshLevel k = none ∧ s.retention.issued[k] = some c ∧ l = .sliceUrgent := by
  simp [State.mem_requests, State.mem_sliceRequests]

theorem State.mem_requests_ap : (l, Request.ap d t) ∈ s.requests ↔ s.apRequest = some (d, t) ∧ l = s.apLevel := by
  simp [State.mem_requests, State.mem_sliceRequests]

theorem State.mem_requests_sp : (l, Request.sp d t) ∈ s.requests ↔ s.spRequest = some (d, t) ∧ l = .sp := by
  simp [State.mem_requests, State.mem_sliceRequests]

theorem State.mem_requests_head : (l, Request.head e) ∈ s.requests ↔ s.headRequest = some e ∧ l = s.headLevel := by
  simp [State.mem_requests, State.mem_sliceRequests]

/-! ### When each stands -/

/-- A slice has a refresh request while it has debt in WARMUP or ACTIVE (R139). -/
def Slice.owes (sl : Slice) : Prop := sl.debt ≠ 0 ∧ (sl.state = .warmup ∨ sl.state = .active)

/-- The refresh request of slice `k` is urgent: in WARMUP, at the threshold, or for a participant while DRAINING (R106). -/
def State.RefreshUrgent (s : State) (k : Cs) : Prop :=
  s.slices[k].state = .warmup
    ∨ (s.slices[k].state = .active
      ∧ (s.tables.chipsels[k].threshold ≤ s.slices[k].debt
        ∨ (s.retention.state = .draining ∧ s.retention.participants[k] = true)))

/-- The level of a slice's refresh request (R104, R106). -/
theorem State.refreshLevel_eq_some :
    s.refreshLevel k = some l ↔
      s.slices[k].owes ∧ ((s.RefreshUrgent k ∧ l = .sliceUrgent) ∨ (¬ s.RefreshUrgent k ∧ l = .sliceIdle)) := by
  unfold State.refreshLevel State.RefreshUrgent Slice.owes
  generalize s.slices[k] = sl
  dsimp only
  by_cases hdebt : sl.debt = 0
  · simp [hdebt]
  · cases hst : sl.state
    case active =>
      simp only [hdebt, if_false]
      split
      · next hu => simp [hu, hdebt, eq_comm (a := l), -Fin.getElem_fin]
      · next hu =>
        simp only [hu]
        simp [hdebt, eq_comm (a := l)]
    all_goals simp [hdebt, eq_comm (a := l)]

theorem State.refreshLevel_eq_none : s.refreshLevel k = none ↔ ¬ s.slices[k].owes := by
  rw [Option.eq_none_iff_forall_ne_some]
  simp only [ne_eq, State.refreshLevel_eq_some]
  constructor
  · intro h howes
    by_cases hu : s.RefreshUrgent k
    · exact h _ ⟨howes, .inl ⟨hu, rfl⟩⟩
    · exact h _ ⟨howes, .inr ⟨hu, rfl⟩⟩
  · exact fun h l hl => h hl.1

theorem State.apRequest_eq_some :
    s.apRequest = some (d, t) ↔
      s.ap.phase = .grant ∧ s.ap.desc = some d ∧ d.target = some t ∧ s.sp.lock = none ∧ s.ap.dataComplete d = true := by
  unfold State.apRequest
  split
  · next x hp hd hl =>
    simp only [hp, hd, hl, true_and, Option.some.injEq]
    constructor
    · intro h
      split at h
      · next hc =>
        obtain ⟨t', ht, heq⟩ := Option.map_eq_some_iff.1 h
        cases heq
        exact ⟨rfl, ht, hc⟩
      · cases h
    · rintro ⟨rfl, ht, hc⟩
      simp [hc, ht]
  · next hno => exact ⟨nofun, fun ⟨hp, hd, _, hl, _⟩ => absurd hl (hno d hp hd)⟩

/-- A read's data is complete; a write's when every beat has been taken (R92). -/
theorem AuxPort.dataComplete_iff (a : AuxPort) (d : Descriptor) :
    a.dataComplete d = true ↔ d.dir = .read ∨ a.buffer.length = d.burst.getD 0 := by
  unfold AuxPort.dataComplete
  cases d.dir <;> simp

theorem State.eq_apLevel_iff :
    l = s.apLevel ↔ (4 ≤ s.channel.patience ∧ l = .sp) ∨ (s.channel.patience < 4 ∧ l = .ap) := by
  unfold State.apLevel Config.patienceLimit
  split
  · next h => simp only [h, Nat.not_lt.2 h, true_and, false_and, or_false]
  · next h => simp only [h, Nat.lt_of_not_le h, true_and, false_and, false_or]

theorem State.spRequest_eq_some : s.spRequest = some (d, t) ↔ s.sp.access = .hold .grant d ∧ d.target = some t := by
  unfold State.spRequest
  split
  · next x hx =>
    rw [hx, Option.map_eq_some_iff]
    constructor
    · rintro ⟨t', ht, heq⟩
      cases heq
      exact ⟨rfl, ht⟩
    · rintro ⟨heq, ht⟩
      cases heq
      exact ⟨t, ht, rfl⟩
  · next hno => exact ⟨nofun, fun ⟨hx, _⟩ => absurd hx (hno d)⟩

theorem State.headRequest_eq_some : s.headRequest = some e ↔ s.queue.head? = some e ∧ s.eligible e = true := by
  unfold State.headRequest
  cases s.queue with
  | nil => simp
  | cons x rest =>
    by_cases hx : s.eligible x = true
    · simp only [hx, if_true, List.head?_cons, Option.some.injEq]
      exact ⟨fun h => ⟨h, h ▸ hx⟩, fun h => h.1⟩
    · simp only [hx, List.head?_cons, Option.some.injEq]
      exact ⟨nofun, fun ⟨h, he⟩ => absurd (h ▸ he) hx⟩

/-- The head may drain (R44). -/
theorem State.eligible_iff :
    s.eligible e = true ↔
      e.onChannel = false
        ∧ (s.tables.chipsels[e.cs].cls = .sram
          ∨ (s.tables.chipsels[e.cs].cls = .dram ∧ (s.slices[e.cs].state = .off ∨ s.slices[e.cs].state = .active)))
        ∧ ¬ (s.retention.state = .draining ∧ s.retention.begun = true ∧ s.retention.participants[e.cs] = true) := by
  have hhold : (!(s.retention.state == .draining && s.retention.begun && s.retention.participants[e.cs])) = true ↔
      ¬ (s.retention.state = .draining ∧ s.retention.begun = true ∧ s.retention.participants[e.cs] = true) := by
    rw [Bool.not_eq_true', ← Bool.not_eq_true, Bool.and_eq_true, Bool.and_eq_true, beq_iff_eq, and_assoc]
  unfold State.eligible
  rw [Bool.and_eq_true, Bool.and_eq_true, hhold, Bool.not_eq_true', and_assoc]
  cases s.tables.chipsels[e.cs].cls <;> simp

theorem SysPort.inOrder_iff (p : SysPort) : p.inOrder = true ↔ ∃ d, p.access = .hold .order d := by
  unfold SysPort.inOrder
  split
  · next d hd => simp [hd]
  · next hno => exact ⟨nofun, fun ⟨d, hd⟩ => absurd hd (hno d)⟩

/-- The level of the head's drain request (R43, R59). -/
theorem State.eq_headLevel_iff :
    l = s.headLevel ↔
      (s.tables.watermark ≤ s.queue.length ∧ l = .drainPressed)
        ∨ (¬ s.tables.watermark ≤ s.queue.length ∧ (∃ d, s.sp.access = .hold .order d) ∧ l = .sp)
        ∨ (¬ s.tables.watermark ≤ s.queue.length ∧ (¬ ∃ d, s.sp.access = .hold .order d) ∧ s.ap.phase = .order ∧ l = .ap)
        ∨ (¬ s.tables.watermark ≤ s.queue.length ∧ (¬ ∃ d, s.sp.access = .hold .order d) ∧ s.ap.phase ≠ .order
          ∧ l = .drainNormal) := by
  simp only [State.headLevel, State.pressure, decide_eq_true_eq, ← SysPort.inOrder_iff]
  split
  · next hp => simp only [hp, not_true, true_and, false_and, or_false]
  · next hp =>
    split
    · next ho => simp only [hp, ho, not_true, not_false_iff, true_and, false_and, or_false, false_or]
    · next ho =>
      split
      · next ha => simp only [hp, ho, ha, ne_eq, not_true, not_false_iff, true_and, false_and, or_false, false_or, Bool.false_eq_true]
      · next ha => simp only [hp, ho, ha, ne_eq, not_false_iff, true_and, false_and, false_or, Bool.false_eq_true]

end Requests

/-! ### The decision and the grant -/

/-- The request chosen stands, and no other outranks it (R104). -/
theorem State.choose_eq_some {s : State} {r : Request} (h : s.choose = some r) :
    ∃ l, (l, r) ∈ s.requests ∧ ∀ x ∈ s.requests, l.rank ≤ x.1.rank := by
  obtain ⟨⟨l, r'⟩, hb, rfl⟩ := Option.map_eq_some_iff.1 h
  exact ⟨l, best_mem _ _ hb, best_rank_le _ _ hb⟩

theorem State.choose_eq_none {s : State} (h : s.choose = none) : s.requests = [] :=
  best_eq_none _ (Option.map_eq_none_iff.1 h)

/-- A decision at a FREE channel: nothing when nothing stands, else the grant of a request of the highest rank (R104, R110). -/
theorem State.decide_of_free {s : State} (h : s.channel.txn = none) :
    (s.requests = [] ∧ s.decide = s)
      ∨ ∃ l r, (l, r) ∈ s.requests ∧ (∀ x ∈ s.requests, l.rank ≤ x.1.rank) ∧ s.decide = s.grant r := by
  cases hc : s.choose with
  | none => exact .inl ⟨State.choose_eq_none hc, s.decide_of_none h hc⟩
  | some r =>
    obtain ⟨l, hmem, hrank⟩ := State.choose_eq_some hc
    exact .inr ⟨l, r, hmem, hrank, s.decide_of_choose r h hc⟩

/-- Settles O33: the members of the list of requests, kind by kind, and the two outcomes of a decision. -/
theorem decisionGrantsTheHighestRank : Obligations.DecisionGrantsTheHighestRank := by
  refine ⟨⟨rfl, rfl, rfl, rfl, rfl, rfl⟩, fun s => ⟨fun hbusy => ?_, fun hfree => ⟨fun hnone => ?_, fun hsome => ?_⟩,
    fun _ l k => ⟨?_, fun c => ?_⟩, fun l d t => ?_, fun l d t => ?_, fun l e => ?_⟩⟩
  · obtain ⟨x, hx⟩ := Option.ne_none_iff_exists'.1 hbusy
    exact s.decide_of_busy x hx
  · obtain ⟨-, h⟩ | ⟨l, r, hmem, -⟩ := State.decide_of_free hfree
    · exact h
    · simp [hnone] at hmem
  · obtain ⟨hnone, -⟩ | h := State.decide_of_free hfree
    · exact absurd hnone hsome
    · exact h
  · exact State.mem_requests_refresh.trans State.refreshLevel_eq_some
  · rw [State.mem_requests_command, State.refreshLevel_eq_none]
    rfl
  · rw [State.mem_requests_ap, State.apRequest_eq_some, State.eq_apLevel_iff, AuxPort.dataComplete_iff]
    simp only [and_assoc]
  · rw [State.mem_requests_sp, State.spRequest_eq_some, and_assoc]
  · rw [State.mem_requests_head, State.headRequest_eq_some, State.eligible_iff, State.eq_headLevel_iff]
    simp only [and_assoc]

/-- Settles O35: each holder's branch of the grant, the head's with its marker set. -/
theorem grantBeginsTheHoldersTransaction : Obligations.GrantBeginsTheHoldersTransaction := by
  intro s
  refine ⟨fun d t => rfl, fun d t => rfl, fun e rest hq => ?_, fun k => rfl, fun k => rfl, fun k => rfl⟩
  rw [State.grant, hq]
  rfl

end Sys2Proof.Machine

/-! ## Burst requests and the rest of the presentations (O12, O14, O25) -/

namespace Sys2Proof.Machine

/-! ### The barrier set -/

/-- The burst's words run upward from its first, wrapping in the chip select (R6, R56). -/
theorem Entry.inBurst_iff (e : Entry) (t : Target) (n : Nat) :
    e.inBurst t n = true ↔ e.cs = t.cs ∧ ∃ i < n, e.phys = t.phys + BitVec.ofNat 23 i := by
  rw [Entry.inBurst, Bool.and_eq_true, beq_iff_eq, decide_eq_true_eq]
  refine and_congr_right fun _ => ⟨fun h => ⟨_, h, ?_⟩, fun ⟨i, hi, he⟩ => ?_⟩
  · rw [BitVec.ofNat_toNat, BitVec.setWidth_eq, BitVec.add_comm, BitVec.sub_add_cancel]
  · rw [he, BitVec.add_comm, BitVec.add_sub_cancel, BitVec.toNat_ofNat]
    exact Nat.lt_of_le_of_lt (Nat.mod_le _ _) hi

/-- The barrier set is the places of the entries for the burst's words (R56). -/
theorem mem_barrierOf {q : List Entry} {t : Target} {n x : Nat} :
    x ∈ barrierOf q t n ↔ ∃ e, q[x]? = some e ∧ e.cs = t.cs ∧ ∃ i < n, e.phys = t.phys + BitVec.ofNat 23 i := by
  simp only [barrierOf, List.mem_map, List.mem_filter, Prod.exists, List.mem_zipIdx_iff_getElem?, Entry.inBurst_iff]
  constructor
  · rintro ⟨e, i, ⟨hi, he⟩, rfl⟩
    exact ⟨e, hi, he⟩
  · rintro ⟨e, hi, he⟩
    exact ⟨e, x, ⟨hi, he⟩, rfl⟩

theorem lt_of_mem_barrierOf {q : List Entry} {t : Target} {n p : Nat} (h : p ∈ barrierOf q t n) : p < q.length := by
  obtain ⟨e, he, -⟩ := mem_barrierOf.1 h
  exact (List.getElem?_eq_some_iff.1 he).1

/-! ### A burst request that does not fault -/

/-- A beat is taken in ORDER, WAKE or GRANT while the buffer holds fewer words than the burst has (R89). -/
theorem AuxPort.takesBeat_iff (a : AuxPort) :
    a.takesBeat = true ↔
      (a.phase = .order ∨ a.phase = .wake ∨ a.phase = .grant)
        ∧ ∃ d, a.desc = some d ∧ d.dir = .write ∧ a.buffer.length < d.burst.getD 0 := by
  unfold AuxPort.takesBeat
  cases a.phase <;> cases a.desc <;> simp

/-- Where a burst request that does not fault goes: ORDER while its barrier set holds entries, else WAKE or GRANT (R57, R88, R91). -/
def State.ApPlaced (s : State) (tg : Target) (b : List Nat) (p : ApPhase) : Prop :=
  b ≠ [] ∧ p = .order ∨ b = [] ∧ s.WakeCondition tg.cs ∧ p = .wake ∨ b = [] ∧ ¬ s.WakeCondition tg.cs ∧ p = .grant

theorem State.exists_apPlaced (s : State) (tg : Target) (b : List Nat) : ∃ p, s.ApPlaced tg b p := by
  by_cases hb : b = []
  · by_cases hw : s.WakeCondition tg.cs
    · exact ⟨_, .inr (.inl ⟨hb, hw, rfl⟩)⟩
    · exact ⟨_, .inr (.inr ⟨hb, hw, rfl⟩)⟩
  · exact ⟨_, .inl ⟨hb, rfl⟩⟩

/-- The Auxiliary Port right after a request that does not fault (R86, R87). -/
def requestedPort (p : ApPhase) (d : Descriptor) (b : List Nat) (buffer : List BusWord) : AuxPort :=
  { phase := p, desc := some d, barrier := b, buffer, performed := 0, releaseSeen := false, axReq := true, closeLeft := none
    beat := none }

/-- The wake check puts a request in WAKE or GRANT by the wake condition (R91). -/
theorem State.apWakeCheck_eq (s : State) (d : Descriptor) (tg : Target) (h : d.target = some tg) {p : ApPhase}
    (hw : s.WakeCondition tg.cs ∧ p = .wake ∨ ¬ s.WakeCondition tg.cs ∧ p = .grant) : s.apWakeCheck d = s.setApPhase p := by
  unfold State.apWakeCheck State.descHeld
  rw [← State.wakeHolds_iff] at hw
  simp only [h]
  obtain ⟨hw, rfl⟩ | ⟨hw, rfl⟩ := hw <;> simp [hw]

/-- Past an ORDER hold a request goes to WAKE or GRANT, and may resume the Retention Controller (R58, R91, R157). -/
theorem State.apWakeCheck_autoResume {s : State} {d : Descriptor} {tg : Target} {p : ApPhase} (ht : d.target = some tg)
    (hw : s.WakeCondition tg.cs ∧ p = .wake ∨ ¬ s.WakeCondition tg.cs ∧ p = .grant) :
    (s.apWakeCheck d).autoResume d =
      { s with ap := { s.ap with phase := p }, retention := s.retention.afterAccess tg.cs } := by
  rw [State.autoResume_of_target _ _ tg ht, State.apWakeCheck_eq s d tg ht hw]
  rfl

/-- The beat of the request's own period is taken by a write burst only (R89). -/
theorem State.takeBeat_requested (s : State) {t : ApTerminals} {p : ApPhase} {b : List Nat} (x : BusWord)
    (hp : p = .order ∨ p = .wake ∨ p = .grant) :
    (s.setAp (requestedPort p (s.apDecoded t) b [])).takeBeat x =
      s.setAp (requestedPort p (s.apDecoded t) b (if t.wr = true then [x] else [])) := by
  have hburst : (s.apDecoded t).burst = some (apWords t) := Tables.decode_burst_ap ..
  have hdir : (s.apDecoded t).dir = apDirection t := Tables.decode_dir ..
  have htakes : (requestedPort p (s.apDecoded t) b []).takesBeat = true ↔ t.wr = true := by
    rw [AuxPort.takesBeat_iff]
    cases hw : t.wr <;> simp [requestedPort, hp, hburst, hdir, apDirection, apWords, hw]
  unfold State.takeBeat
  rw [State.setAp_ap]
  by_cases hw : t.wr = true
  · rw [if_pos (htakes.2 hw), if_pos hw]
    rfl
  · rw [if_neg (mt htakes.1 hw), if_neg hw]

/-- A request that does not fault takes its barrier set and its place, with the beat of the same period (R56, R87 to R91, R157). -/
theorem State.presentAp_of_target {s : State} {t : ApTerminals} {tg : Target} {p : ApPhase} (hf : (s.apDecoded t).faulted = false)
    (ht : (s.apDecoded t).target = some tg) (hp : s.ApPlaced tg (barrierOf s.queue tg (apWords t)) p) :
    s.presentAp t =
      { s with
        ap := requestedPort p (s.apDecoded t) (barrierOf s.queue tg (apWords t)) (if t.wr = true then t.beat.toList else [])
        retention := s.retention.afterAccess tg.cs } := by
  have hnot (k : FaultKind) : (s.apDecoded t).disposition ≠ .fault k := fun hk => by
    simp [(Descriptor.faulted_iff _).2 ⟨k, hk⟩] at hf
  have hplaced {b : List Nat} (hb : s.ApPlaced tg b p) :
      (if b.isEmpty then (s.setAp (requestedPort .order (s.apDecoded t) b [])).apWakeCheck (s.apDecoded t)
        else s.setAp (requestedPort .order (s.apDecoded t) b [])) = s.setAp (requestedPort p (s.apDecoded t) b []) := by
    obtain ⟨hne, rfl⟩ | ⟨rfl, hw, rfl⟩ | ⟨rfl, hw, rfl⟩ := hb
    · rw [if_neg (by simpa using hne)]
    · exact State.apWakeCheck_eq _ _ tg ht (.inl ⟨hw, rfl⟩)
    · exact State.apWakeCheck_eq _ _ tg ht (.inr ⟨hw, rfl⟩)
  have hphase : p = .order ∨ p = .wake ∨ p = .grant := by
    obtain ⟨-, h⟩ | ⟨-, -, h⟩ | ⟨-, -, h⟩ := hp <;> simp [h]
  unfold State.presentAp
  rw [← State.apDecoded]
  dsimp only
  split
  · next k hk => exact absurd hk (hnot k)
  · next hnone _ => cases ht.symm.trans hnone
  · next tg' htg' _ =>
    cases ht.symm.trans htg'
    have hstate := hplaced hp
    unfold requestedPort at hstate
    rw [hstate, State.autoResume_of_target _ _ tg ht]
    cases t.beat with
    | none =>
      rw [Option.toList_none, ite_self]
      rfl
    | some x => exact State.takeBeat_requested { s with retention := s.retention.afterAccess tg.cs } x hphase

/-- Settles O25: the request's state by `State.presentAp_of_target`, its barrier set by `mem_barrierOf`. -/
theorem burstRequestTakesItsBarrierSet : Obligations.BurstRequestTakesItsBarrierSet := by
  intro s t tg p hready hf ht
  dsimp only
  intro hp
  refine ⟨?_, fun x => mem_barrierOf⟩
  rw [execApPresentation_of_presented hready, State.presentAp_of_target hf ht hp]
  rfl

/-! ### System Port accesses that do not fault -/

/-- A FORWARD-CHECK access is a read (R12). -/
theorem Tables.decode_forwardCheck {t : Tables} {lock : Option Lock} {p : Presented}
    (h : (t.decode lock p).disposition = .forwardCheck) : p.dir = .read := by
  cases hs : t.select p.word with
  | none =>
    rw [Tables.decode_disposition_of_none hs] at h
    cases h
  | some i =>
    cases hk : decodeCheck p t.regions[i] t.chipsels[t.regions[i].cs].cls with
    | some k =>
      rw [Tables.decode_disposition_of_check hs hk] at h
      cases h
    | none =>
      rw [Tables.decode_disposition_of_pass hs hk] at h
      unfold dispositionOf at h
      split at h
      · cases h
      · next hrd => exact hrd
      · split at h
        · cases h
        · split at h <;> cases h

/-- An access that does not fault makes its capture and is handed on; only a LOCKED write keeps the lock (R17, R25, R80). -/
theorem State.presentSp_of_not_faulted {s : State} {t : SpTerminals} (h : (s.spDecoded t).faulted = false) :
    s.presentSp t =
      ((if (s.spDecoded t).disposition = .lockedWrite then s else s.endLock).setTables
        (s.tables.capture (s.spDecoded t))).handOnSp (s.spDecoded t) := by
  rw [State.presentSp_eq]
  cases hd : (s.spDecoded t).disposition with
  | fault k => simp [(Descriptor.faulted_iff _).2 ⟨k, hd⟩] at h
  | _ => rfl

/-- Settles O12: the hit's branch of `State.handOnSp`; a read captures nothing. -/
theorem forwardHitIsAnsweredFromTheQueue : Obligations.ForwardHitIsAnsweredFromTheQueue := by
  intro s t tg w hp hd ht hhit
  have hread : (s.spDecoded t).dir = .read := (Tables.decode_dir ..).trans (Tables.decode_forwardCheck hd)
  have hpass : (s.spDecoded t).faulted = false := by simp [Descriptor.faulted, hd]
  have hfwd : (s.endLock.setTables s.tables).forwardHit (s.spDecoded t) = some w := by
    simp [State.forwardHit, hd, ht, hhit]
  rw [execSpPresentation_of_presented hp, State.presentSp_of_not_faulted hpass, if_neg (by simp [hd]),
    Tables.capture_of_read _ _ hread, State.handOnSp, hfwd]
  rfl

/-- The wake condition reads the classes, the slices and the Retention Controller only (R68). -/
theorem State.wakeCondition_congr {s s' : State} {k : Cs} (hc : s'.tables.chipsels = s.tables.chipsels) (hs : s'.slices = s.slices)
    (hr : s'.retention = s.retention) : s'.WakeCondition k ↔ s.WakeCondition k := by
  unfold State.WakeCondition
  rw [hc, hs, hr]

/-- Past an ORDER hold an access goes to WAKE or GRANT, and may resume the Retention Controller (R58, R68, R157). -/
theorem State.spWakeCheck_autoResume {s : State} {d : Descriptor} {tg : Target} {why : HoldReason} (ht : d.target = some tg)
    (hw : s.WakeCondition tg.cs ∧ why = .wake ∨ ¬ s.WakeCondition tg.cs ∧ why = .grant) :
    (s.spWakeCheck d).autoResume d =
      { s with sp := { s.sp with access := .hold why d }, retention := s.retention.afterAccess tg.cs } := by
  rw [State.autoResume_of_target _ _ tg ht, State.spWakeCheck_eq s d tg ht why hw]
  rfl

/-- An access that is neither posted nor a forward hit is held in ORDER, WAKE or GRANT (R52, R55, R68). -/
theorem State.handOnSp_of_held {s : State} {d : Descriptor} {tg : Target} {why : HoldReason} (ht : d.target = some tg)
    (hnot : d.disposition ≠ .posted) (hmiss : s.forwardHit d = none)
    (hwhy : (orderWaits s.queue d = true ∧ why = .order)
      ∨ (¬ orderWaits s.queue d = true ∧ s.WakeCondition tg.cs ∧ why = .wake)
      ∨ (¬ orderWaits s.queue d = true ∧ ¬ s.WakeCondition tg.cs ∧ why = .grant)) :
    s.handOnSp d =
      { s with sp := { s.sp with access := .hold why d }, retention := s.retention.afterAccess tg.cs } := by
  have hplace : s.placeSp d = if orderWaits s.queue d then s.setAccess (.hold .order d) else s.spWakeCheck d := by
    unfold State.placeSp
    split
    · next hposted _ => exact absurd hposted hnot
    · rfl
  rw [State.handOnSp, hmiss]
  dsimp only
  rw [hplace]
  obtain ⟨hq, rfl⟩ | ⟨hq, hw⟩ | ⟨hq, hw⟩ := hwhy
  · rw [if_pos hq, State.autoResume_of_target _ _ tg ht]
    rfl
  · rw [if_neg hq]
    exact State.spWakeCheck_autoResume ht (.inl hw)
  · rw [if_neg hq]
    exact State.spWakeCheck_autoResume ht (.inr hw)

/-- Only a hit of the forward check is answered from the queue (R50). -/
theorem State.forwardHit_eq_none {s : State} {d : Descriptor} {tg : Target} (ht : d.target = some tg)
    (h : d.disposition = .forwardCheck → ∀ w, forwardCheck s.queue tg d.lanes ≠ .hit w) : s.forwardHit d = none := by
  unfold State.forwardHit
  split
  · next t hd ht' =>
    cases ht.symm.trans ht'
    split
    · next w hw => exact absurd hw (h hd w)
    · rfl
  · rfl

/-- Settles O14: an access that is neither faulted, posted nor a forward hit is held, by `State.handOnSp_of_held`. -/
theorem otherAccessHoldsInOrderWakeOrGrant : Obligations.OtherAccessHoldsInOrderWakeOrGrant := by
  intro s t tg why hp ht
  dsimp only
  intro hdisp hwhy
  have hpass : (s.spDecoded t).faulted = false := by
    obtain ⟨h, -⟩ | h | h | h := hdisp <;> simp [Descriptor.faulted, h]
  have hposted : (s.spDecoded t).disposition ≠ .posted := by
    obtain ⟨h, -⟩ | h | h | h := hdisp <;> simp [h]
  have hmiss : (s.spDecoded t).disposition = .forwardCheck → ∀ w, forwardCheck s.queue tg (s.spDecoded t).lanes ≠ .hit w := by
    obtain ⟨-, h⟩ | h | h | h := hdisp
    · exact fun _ => h
    all_goals simp [h]
  have hwaits : orderWaits s.queue (s.spDecoded t) = true ↔
      if (s.spDecoded t).disposition = .forwardCheck then ∃ e ∈ s.queue, e.cs = tg.cs ∧ e.phys = tg.phys
      else ∃ e ∈ s.queue, e.cs = tg.cs := by
    rw [orderWaits_iff _ _ tg ht]
    split <;> rfl
  rw [← hwaits] at hwhy
  have held (x : State) (hq : x.queue = s.queue) (hs : x.slices = s.slices) (hr : x.retention = s.retention) :
      (x.setTables (s.tables.capture (s.spDecoded t))).handOnSp (s.spDecoded t) =
        { x with
          tables := s.tables.capture (s.spDecoded t)
          sp := { x.sp with access := .hold why (s.spDecoded t) }
          retention := x.retention.afterAccess tg.cs } := by
    have hwake := State.wakeCondition_congr (s := s) (s' := x.setTables (s.tables.capture (s.spDecoded t))) (k := tg.cs)
      (Tables.capture_chipsels ..) hs hr
    refine State.handOnSp_of_held ht hposted (State.forwardHit_eq_none ht fun h => ?_) ?_
    · rw [State.setTables_queue, hq]
      exact hmiss h
    · rw [State.setTables_queue, hq, hwake]
      exact hwhy
  rw [execSpPresentation_of_presented hp, State.presentSp_of_not_faulted hpass]
  by_cases hl : (s.spDecoded t).disposition = .lockedWrite
  · rw [if_pos hl, if_pos hl, held s rfl rfl rfl]
  · rw [if_neg hl, if_neg hl, held s.endLock rfl rfl rfl]
    rfl

end Sys2Proof.Machine

/-! ## The channel's holder and its owner agree, and the burst's fields are sound (O58) -/

namespace Sys2Proof.Machine

/-! ### Who holds the channel -/

/-- No event of a word changes its holder (R117). -/
@[simp] theorem WordTxn.enterStrobe_holder (w : WordTxn) : w.enterStrobe.holder = w.holder := by
  unfold WordTxn.enterStrobe
  split <;> rfl

@[simp] theorem WordTxn.beginWord_holder (w : WordTxn) : w.beginWord.holder = w.holder := by
  unfold WordTxn.beginWord
  dsimp only
  split
  · exact WordTxn.enterStrobe_holder _
  · rfl

@[simp] theorem WordTxn.afterHold_holder (w : WordTxn) : w.afterHold.holder = w.holder := by
  unfold WordTxn.afterHold
  split <;> rfl

@[simp] theorem WordTxn.endStrobe_holder (w : WordTxn) (md : BusWord) : (w.endStrobe md).holder = w.holder := by
  unfold WordTxn.endStrobe
  dsimp only
  split
  · exact WordTxn.afterHold_holder _
  · rfl

@[simp] theorem WordTxn.period_holder (w : WordTxn) : w.period.holder = w.holder := by
  unfold WordTxn.period
  split <;> rfl

theorem WordTxn.phaseEnd_holder {w w' : WordTxn} {md : BusWord} (h : w.phaseEnd md = some w') : w'.holder = w.holder := by
  unfold WordTxn.phaseEnd at h
  split at h
  · cases h
  · split at h
    · cases h
      exact w.enterStrobe_holder
    · split at h
      · cases h
        rfl
      · cases h
        exact w.endStrobe_holder md
    · cases h
      exact w.afterHold_holder
    · cases h
      rfl
    · cases h
    · cases h

theorem WordTxn.ready_holder {w w' : WordTxn} {md : BusWord} (h : w.ready md = some w') : w'.holder = w.holder := by
  unfold WordTxn.ready at h
  split at h
  · cases h
    exact w.endStrobe_holder md
  · cases h

theorem WordTxn.exceed_holder {w w' : WordTxn} (h : w.exceed = some w') : w'.holder = w.holder := by
  unfold WordTxn.exceed at h
  split at h
  · cases h
    exact WordTxn.endStrobe_holder _ _
  · cases h

/-- The holder of a channel that carries a word or burst transaction. -/
theorem Channel.heldBy_of_word {c : Channel} {w : WordTxn} (h : c.txn = some (.word w)) (x : WordHolder) :
    c.heldBy x = (w.holder == x) := by
  simp [Channel.heldBy, h]

theorem Channel.heldBy_of_free {c : Channel} (h : c.txn = none) (x : WordHolder) : c.heldBy x = false := by
  simp [Channel.heldBy, h]

/-- One holder at a time (R102). -/
theorem Channel.not_heldBy_of_heldBy {c : Channel} {x y : WordHolder} (h : c.heldBy x = true) (hne : y ≠ x) :
    c.heldBy y = false := by
  unfold Channel.heldBy at h ⊢
  split
  · next w hw =>
    simp only [hw, beq_iff_eq] at h
    exact beq_false_of_ne (h ▸ hne.symm)
  · rfl

theorem State.beginWord_heldBy (s : State) (h : WordHolder) (dir : Direction) (t : Target) (n : Nat) (m : Lanes)
    (data : List BusWord) (x : WordHolder) : (s.beginWord h dir t n m data).channel.heldBy x = (h == x) := by
  simp [State.beginWord, Channel.heldBy]

/-- No CK period changes the channel's holder. -/
theorem State.period_heldBy (s : State) (x : WordHolder) : s.period.channel.heldBy x = s.channel.heldBy x := by
  simp only [State.period, Channel.heldBy]
  cases s.channel.txn with
  | none => rfl
  | some t => cases t <;> simp [Txn.period]

/-! ### The markers of the queue -/

/-- A write that is taken moves no marker: it merges into an unmarked tail, or comes unmarked at the end (R36, R37). -/
theorem offer_keeps_markers {q q' : List Entry} {n : Entry} (h : offer q n = some q') (hn : n.onChannel = false)
    (hq : ∀ e ∈ q.tail, e.onChannel = false) :
    headMarked q' = headMarked q ∧ ∀ e ∈ q'.tail, e.onChannel = false := by
  obtain ⟨init, x, rfl, hm, rfl⟩ | rfl := offer_eq_some h
  · have hx : (x.merge n).onChannel = x.onChannel := rfl
    cases init with
    | nil => exact ⟨hx, nofun⟩
    | cons y rest =>
      refine ⟨rfl, fun e he => ?_⟩
      simp only [List.cons_append, List.tail_cons, List.mem_append, List.mem_singleton] at he hq
      obtain he | rfl := he
      · exact hq e (.inl he)
      · exact hx.trans (hq x (.inr rfl))
  · cases q with
    | nil => exact ⟨hn, nofun⟩
    | cons y rest =>
      refine ⟨rfl, fun e he => ?_⟩
      simp only [List.cons_append, List.tail_cons, List.mem_append, List.mem_singleton] at he hq
      obtain he | rfl := he
      · exact hq e he
      · exact hn

/-- A write that is taken shortens no queue. -/
theorem length_le_of_offer {q q' : List Entry} {n : Entry} (h : offer q n = some q') : q.length ≤ q'.length := by
  obtain ⟨init, x, rfl, -, rfl⟩ | rfl := offer_eq_some h <;> simp

/-! ### The Auxiliary Port's fields -/

/-- The burst's fields agree with the port's state, and its barrier set names places below `n` (R56, R57, R86). -/
structure AuxPort.SoundBelow (a : AuxPort) (n : Nat) : Prop where
  idle : a.phase = .idle ↔ a.desc = none
  burst : ∀ d ∈ a.desc, ∃ m, d.burst = some m ∧ 1 ≤ m ∧ m ≤ 8 ∧ a.buffer.length ≤ m
  order : a.phase = .order ↔ a.barrier ≠ []
  below : ∀ p ∈ a.barrier, p < n

namespace AuxPort.SoundBelow

variable {a : AuxPort} {n : Nat}

theorem mono (h : a.SoundBelow n) {m : Nat} (hm : n ≤ m) : a.SoundBelow m :=
  ⟨h.idle, h.burst, h.order, fun p hp => Nat.lt_of_lt_of_le (h.below p hp) hm⟩

/-- A move between two states that are neither IDLE nor ORDER leaves the burst's fields in agreement. -/
theorem move (h : a.SoundBelow n) (hidle : a.phase ≠ .idle) (horder : a.phase ≠ .order) {a' : AuxPort} (hidle' : a'.phase ≠ .idle)
    (horder' : a'.phase ≠ .order) (hd : a'.desc = a.desc) (hbuf : a'.buffer = a.buffer) (hbar : a'.barrier = a.barrier) :
    a'.SoundBelow n := by
  obtain ⟨hi, hb, ho, hbelow⟩ := h
  refine ⟨?_, ?_, ?_, ?_⟩
  · rw [hd, ← hi]
    exact iff_of_false hidle' hidle
  · rw [hd, hbuf]
    exact hb
  · rw [hbar, ← ho]
    exact iff_of_false horder' horder
  · rw [hbar]
    exact hbelow

/-- The fields that the agreement reads are the port's state, its descriptor, its buffer and its barrier set. -/
theorem keep (h : a.SoundBelow n) {a' : AuxPort} (hp : a'.phase = a.phase) (hd : a'.desc = a.desc) (hbuf : a'.buffer = a.buffer)
    (hbar : a'.barrier = a.barrier) : a'.SoundBelow n := by
  obtain ⟨hi, hb, ho, hbelow⟩ := h
  exact ⟨by rw [hp, hd, hi], by rw [hd, hbuf]; exact hb, by rw [hp, hbar, ho], by rw [hbar]; exact hbelow⟩

theorem toIdle : a.toIdle.SoundBelow n :=
  ⟨iff_of_true rfl rfl, forall_mem_none, iff_of_false nofun (fun h => h rfl), nofun⟩

end AuxPort.SoundBelow

/-- After the head has left, the places of the barrier set are one lower (R57). -/
theorem lt_of_mem_barrierAfterRemoval {b : List Nat} {n : Nat} (h : ∀ p ∈ b, p < n + 1) : ∀ p ∈ barrierAfterRemoval b, p < n := by
  intro p hp
  simp only [barrierAfterRemoval, List.mem_map, List.mem_filter, bne_iff_ne] at hp
  obtain ⟨x, ⟨hx, hne⟩, rfl⟩ := hp
  have := h x hx
  omega

end Sys2Proof.Machine

namespace Sys2Proof.Machine

/-! ### One lemma per operation of the state

The two invariants go together. `n` is 1 between the head's removal and the barrier set's loss of it, and 0 everywhere else. -/

/-- The channel's holder agrees with the owners' states, and the burst's fields are sound with the barrier set counting `n` entries
that have left the queue (R45, R56, R57, R70, R93). -/
structure State.OwnersAgree (s : State) (n : Nat) : Prop where
  sp : s.channel.heldBy .sp = s.sp.channelled.isSome
  ap : s.channel.heldBy .ap = (s.ap.phase == .burst)
  head : s.channel.heldBy .head = headMarked s.queue
  rest : ∀ e ∈ s.queue.tail, e.onChannel = false
  port : s.ap.SoundBelow (s.queue.length + n)

theorem State.ownersAgree_iff (s : State) : s.OwnersAgree 0 ↔ s.HolderAgrees ∧ s.BurstSound := by
  constructor
  · rintro ⟨hsp, hap, hhead, hrest, hidle, hburst, horder, hbelow⟩
    exact ⟨⟨hsp, hap, hhead, hrest⟩, hidle, hburst, horder, hbelow⟩
  · rintro ⟨⟨hsp, hap, hhead, hrest⟩, hidle, hburst, horder, hbelow⟩
    exact ⟨hsp, hap, hhead, hrest, hidle, hburst, horder, hbelow⟩

namespace State.OwnersAgree

variable {s : State} {n : Nat}

theorem of_eq {s' : State} (h : s.OwnersAgree n) (hc : ∀ x, s'.channel.heldBy x = s.channel.heldBy x)
    (hs : s'.sp.channelled = s.sp.channelled) (ha : s'.ap = s.ap) (hq : s'.queue = s.queue) : s'.OwnersAgree n := by
  obtain ⟨hsp, hap, hhead, hrest, hport⟩ := h
  exact ⟨by rw [hc, hs, hsp], by rw [hc, ha, hap], by rw [hc, hq, hhead], by rw [hq]; exact hrest, by rw [ha, hq]; exact hport⟩

theorem of_sameUnits {s' : State} (h : s.OwnersAgree n) (hu : s.SameUnits s') : s'.OwnersAgree n :=
  h.of_eq (by simp [hu.channel]) (by rw [hu.sp]) hu.ap hu.queue

/-- A channel with no word or burst transaction is held by none of the three. -/
theorem of_free (hc : ∀ x, s.channel.heldBy x = false) (hs : s.sp.channelled = none) (hb : s.ap.phase ≠ .burst)
    (hq : ∀ e ∈ s.queue, e.onChannel = false) (hport : s.ap.SoundBelow (s.queue.length + n)) : s.OwnersAgree n := by
  refine ⟨by rw [hc, hs]; rfl, by rw [hc]; exact (beq_false_of_ne hb).symm, ?_, fun e he => hq e (List.mem_of_mem_tail he), hport⟩
  rw [hc]
  cases hqs : s.queue with
  | nil => rfl
  | cons e rest => exact (hq e (by simp [hqs])).symm

/-- While the channel is not the System Port's, its access is not on it (R70). -/
theorem channelled_of_not_held (h : s.OwnersAgree n) (hc : s.channel.heldBy .sp = false) : s.sp.channelled = none :=
  Option.isNone_iff_eq_none.1 (by rw [← Option.not_isSome, ← h.sp, hc]; rfl)

/-- While the channel is not the Auxiliary Port's, it is not in BURST (R93). -/
theorem not_burst_of_not_held (h : s.OwnersAgree n) (hc : s.channel.heldBy .ap = false) : s.ap.phase ≠ .burst := by
  intro hb
  have := h.ap
  simp [hc, hb] at this

theorem burst_of_held (h : s.OwnersAgree n) (hc : s.channel.heldBy .ap = true) : s.ap.phase = .burst := by
  have := h.ap
  rw [hc] at this
  exact eq_of_beq this.symm

/-- While the channel is not the head's, no entry is marked (R45). -/
theorem unmarked_of_not_held (h : s.OwnersAgree n) (hc : s.channel.heldBy .head = false) :
    ∀ e ∈ s.queue, e.onChannel = false := by
  have hhead := h.head
  have hrest := h.rest
  rw [hc] at hhead
  cases hq : s.queue with
  | nil => nofun
  | cons x rest =>
    rw [hq] at hhead hrest
    intro e he
    obtain rfl | he := List.mem_cons.1 he
    · exact hhead.symm
    · exact hrest e he

/-! #### Updates -/

theorem setSp (h : s.OwnersAgree n) {x : SysPort} (hx : x.channelled = s.sp.channelled) : (s.setSp x).OwnersAgree n :=
  h.of_eq (fun _ => rfl) hx rfl rfl

/-- An access off the channel moves to another state off the channel. -/
theorem setAccess (h : s.OwnersAgree n) (hs : s.sp.channelled = none) {a : SpAccess}
    (ha : ({ s.sp with access := a } : SysPort).channelled = none) : (s.setAccess a).OwnersAgree n :=
  h.setSp (ha.trans hs.symm)

theorem setAp (h : s.OwnersAgree n) {a : AuxPort} (hb : a.phase = .burst ↔ s.ap.phase = .burst)
    (ha : a.SoundBelow (s.queue.length + n)) : (s.setAp a).OwnersAgree n := by
  obtain ⟨hsp, hap, hhead, hrest, -⟩ := h
  refine ⟨hsp, hap.trans ?_, hhead, hrest, ha⟩
  rw [Bool.eq_iff_iff, beq_iff_eq, beq_iff_eq]
  exact hb.symm

theorem keepAp (h : s.OwnersAgree n) {a : AuxPort} (hp : a.phase = s.ap.phase) (hd : a.desc = s.ap.desc)
    (hbuf : a.buffer = s.ap.buffer) (hbar : a.barrier = s.ap.barrier) : (s.setAp a).OwnersAgree n :=
  h.setAp (by rw [hp]) (h.port.keep hp hd hbuf hbar)

theorem setPatience (h : s.OwnersAgree n) (p : Nat) : (s.setChannel { s.channel with patience := p }).OwnersAgree n :=
  h.of_eq (fun _ => rfl) rfl rfl rfl

theorem setTables (h : s.OwnersAgree n) (x : Tables) : (s.setTables x).OwnersAgree n := h.of_eq (fun _ => rfl) rfl rfl rfl

theorem setSlice (h : s.OwnersAgree n) (k : Cs) (x : Slice) : (s.setSlice k x).OwnersAgree n := h.of_eq (fun _ => rfl) rfl rfl rfl

theorem setRetention (h : s.OwnersAgree n) (x : Retention) : (s.setRetention x).OwnersAgree n := h.of_eq (fun _ => rfl) rfl rfl rfl

theorem deliver (h : s.OwnersAgree n) (o : Occurrence) : (s.deliver o).OwnersAgree n := h.of_eq (fun _ => rfl) rfl rfl rfl

theorem endLock (h : s.OwnersAgree n) : s.endLock.OwnersAgree n := h.of_eq (fun _ => rfl) rfl rfl rfl

/-! #### The wake condition and the Retention Controller -/

theorem rewakeSp (h : s.OwnersAgree n) : s.rewakeSp.OwnersAgree n := by
  have held {r : HoldReason} {d : Descriptor} (hacc : s.sp.access = .hold r d) : s.sp.channelled = none := by
    simp [SysPort.channelled, hacc]
  unfold State.rewakeSp
  split
  · next d hacc =>
    split
    · exact h
    · exact h.setAccess (held hacc) rfl
  · next d hacc =>
    split
    · exact h.setAccess (held hacc) rfl
    · exact h
  · exact h

theorem rewakeAp (h : s.OwnersAgree n) : s.rewakeAp.OwnersAgree n := by
  unfold State.rewakeAp
  split
  · next d hp hd =>
    split
    · exact h
    · exact h.setAp (by simp [hp]) (h.port.move (by simp [hp]) (by simp [hp]) nofun nofun rfl rfl rfl)
  · next d hp hd =>
    split
    · exact State.OwnersAgree.setPatience (s := s.setApPhase .wake)
        (h.setAp (by simp [hp]) (h.port.move (by simp [hp]) (by simp [hp]) nofun nofun rfl rfl rfl)) 0
    · exact h
  · exact h

theorem rewake (h : s.OwnersAgree n) : s.rewake.OwnersAgree n := h.rewakeSp.rewakeAp

theorem sequenceBegin (h : s.OwnersAgree n) : s.sequenceBegin.OwnersAgree n := h.of_eq (by simp) (by simp) (by simp) (by simp)

theorem sequenceEnd (h : s.OwnersAgree n) : s.sequenceEnd.OwnersAgree n := h.of_eq (by simp) (by simp) (by simp) (by simp)

theorem resumeEnd (h : s.OwnersAgree n) : s.resumeEnd.OwnersAgree n := h.of_eq (by simp) (by simp) (by simp) (by simp)

theorem settle (h : s.OwnersAgree n) : s.settle.OwnersAgree n := h.rewake.sequenceBegin.rewake.sequenceEnd.resumeEnd.rewake

theorem autoResume (h : s.OwnersAgree n) (d : Descriptor) : (s.autoResume d).OwnersAgree n :=
  h.of_eq (by simp) (by simp) (by simp) (by simp)

/-! #### The Arbiter -/

/-- A slice's transaction leaves the channel held by none of the three, as a FREE one is. -/
theorem beginSlice (h : s.OwnersAgree n) (hfree : s.channel.txn = none) (k : Cs) (op : SliceOp) :
    (s.beginSlice k op).OwnersAgree n :=
  h.of_eq (fun x => (Channel.heldBy_of_free hfree x).symm) rfl rfl rfl

/-- The end of a slice's transaction leaves the channel FREE, held by none of the three as before (R130, R131). -/
theorem freeSlice (h : s.OwnersAgree n) {op : SliceOp} {k : Cs} (hk : s.endedSlice op = some k) : (s.setTxn none).OwnersAgree n := by
  refine h.of_eq (fun x => ?_) rfl rfl rfl
  unfold State.endedSlice at hk
  split at hk
  · next _ _ _ htxn => simp [Channel.heldBy, htxn]
  · cases hk

/-- The grant of a standing request puts its holder's own state in agreement with the channel (R45, R70, R93). -/
theorem grant (h : s.OwnersAgree n) (hfree : s.channel.txn = none) {l : Level} {r : Request} (hr : (l, r) ∈ s.requests) :
    (s.grant r).OwnersAgree n := by
  have hnot := Channel.heldBy_of_free hfree
  match r with
  | .refresh k => exact h.beginSlice hfree k _
  | .command k .enter => exact (h.setSlice k _).beginSlice hfree k _
  | .command k .exit => exact h.beginSlice hfree k _
  | .sp d t =>
    refine ⟨State.beginWord_heldBy .., (State.beginWord_heldBy ..).trans ?_, (State.beginWord_heldBy ..).trans ?_, h.rest, h.port⟩
    · exact (hnot .ap).symm.trans h.ap
    · exact (hnot .head).symm.trans h.head
  | .ap d t =>
    obtain ⟨hp, -⟩ := State.apRequest_eq_some.1 (State.mem_requests_ap.1 hr).1
    refine ⟨(State.beginWord_heldBy ..).trans ?_, State.beginWord_heldBy .., (State.beginWord_heldBy ..).trans ?_, h.rest, ?_⟩
    · exact (hnot .sp).symm.trans h.sp
    · exact (hnot .head).symm.trans h.head
    · exact h.port.move (by simp [hp]) (by simp [hp]) nofun nofun rfl rfl rfl
  | .head e =>
    obtain ⟨hq, -⟩ := State.headRequest_eq_some.1 (State.mem_requests_head.1 hr).1
    obtain ⟨rest, hq⟩ := List.head?_eq_some_iff.1 hq
    have hmarked : (s.grant (.head e)).queue = { e with onChannel := true } :: rest := by
      rw [show (s.grant (.head e)).queue = markHead s.queue from rfl, hq]
      rfl
    have hrest : ∀ x ∈ rest, x.onChannel = false := by simpa [hq] using h.rest
    refine ⟨(State.beginWord_heldBy ..).trans ?_, (State.beginWord_heldBy ..).trans ?_, (State.beginWord_heldBy ..).trans ?_, ?_, ?_⟩
    · exact (hnot .sp).symm.trans h.sp
    · exact (hnot .ap).symm.trans h.ap
    · rw [hmarked]
      rfl
    · rw [hmarked]
      exact hrest
    · rw [hmarked]
      have hport := h.port
      rwa [hq] at hport

theorem decide (h : s.OwnersAgree n) : s.decide.OwnersAgree n := by
  cases hc : s.channel.txn with
  | some x =>
    rw [s.decide_of_busy x hc]
    exact h
  | none =>
    obtain ⟨-, heq⟩ | ⟨l, r, hmem, -, heq⟩ := State.decide_of_free hc
    · rw [heq]
      exact h
    · rw [heq]
      exact h.grant hc hmem

theorem conclude (h : s.OwnersAgree n) : s.conclude.OwnersAgree n := h.settle.decide

/-! #### The System Port -/

theorem spWakeCheck (h : s.OwnersAgree n) (hs : s.sp.channelled = none) (d : Descriptor) : (s.spWakeCheck d).OwnersAgree n :=
  h.setAccess hs rfl

theorem offerPosted (h : s.OwnersAgree n) (hs : s.sp.channelled = none) (d : Descriptor) (t : Target) :
    (s.offerPosted d t).OwnersAgree n := by
  unfold State.offerPosted
  split
  · rename_i q hq
    obtain ⟨hhead, hrest⟩ := offer_keeps_markers hq rfl h.rest
    have hlen : s.queue.length + n ≤ q.length + n := Nat.add_le_add_right (length_le_of_offer hq) n
    have hposted : (s.setQueue q).OwnersAgree n := ⟨h.sp, h.ap, h.head.trans hhead.symm, hrest, h.port.mono hlen⟩
    exact hposted.setAccess hs rfl
  · exact h.setAccess hs rfl

theorem placeSp (h : s.OwnersAgree n) (hs : s.sp.channelled = none) (d : Descriptor) : (s.placeSp d).OwnersAgree n := by
  unfold State.placeSp
  split
  · exact h.offerPosted hs _ _
  · split
    · exact h.setAccess hs rfl
    · exact h.spWakeCheck hs _

theorem handOnSp (h : s.OwnersAgree n) (hs : s.sp.channelled = none) (d : Descriptor) : (s.handOnSp d).OwnersAgree n := by
  unfold State.handOnSp
  split
  · exact h.setAccess hs rfl
  · exact (h.placeSp hs d).autoResume d

/-- A presented access goes to HOLD or ANSWERED (R15, R17). -/
theorem presentSp (h : s.OwnersAgree n) (hs : s.sp.channelled = none) (t : SpTerminals) : (s.presentSp t).OwnersAgree n := by
  rw [State.presentSp_eq]
  split
  · exact (h.endLock.deliver _).setAccess hs rfl
  · exact (h.setTables (s.tables.capture (s.spDecoded t))).handOnSp hs _
  · exact (h.endLock.setTables (s.tables.capture (s.spDecoded t))).handOnSp hs _

/-- The end of an access leaves one on the channel there, with its withdrawn marker (R82). -/
theorem endAccess (h : s.OwnersAgree n) : s.endAccess.OwnersAgree n := by
  unfold State.endAccess
  split
  · exact h
  · next a w d hacc => exact h.setAccess (by simp [SysPort.channelled, hacc]) rfl
  · next r d hacc =>
    have hs : s.sp.channelled = none := by simp [SysPort.channelled, hacc]
    dsimp only
    split
    · exact ((h.deliver _).endLock.setAccess (a := .idle) hs rfl).decide
    · exact ((h.deliver _).setAccess (a := .idle) hs rfl).decide
  · next d hacc => exact h.setSp (by simp [SysPort.channelled, hacc])
  · exact h.setSp rfl

/-- The System Port's completion takes its access off the channel, which is FREE (R70, R82). -/
theorem completeSp (h : s.OwnersAgree n) (hc : s.channel.heldBy .sp = true) (w : WordTxn) (withdrawn : Bool) (d : Descriptor)
    (t : SpTerminals) : ((s.setTxn none).completeSp w withdrawn d t).OwnersAgree n := by
  have hnot (x : WordHolder) (hx : x ≠ .sp) : s.channel.heldBy x = false := Channel.not_heldBy_of_heldBy hc hx
  have off (p : SysPort) (hp : p.channelled = none) : (((s.setTxn none).noteTimeout w d).setSp p).OwnersAgree n := by
    refine of_free (Channel.heldBy_of_free (by simp)) hp ?_ ?_ ?_
    · simpa using h.not_burst_of_not_held (hnot .ap nofun)
    · simpa using h.unmarked_of_not_held (hnot .head nofun)
    · simpa using h.port
  cases withdrawn with
  | true =>
    rw [State.completeSp_of_withdrawn]
    split
    · exact (off _ rfl).presentSp rfl t
    · exact off _ rfl
  | false =>
    rw [State.completeSp_of_not_withdrawn]
    refine off _ ?_
    unfold answerOf
    split <;> rfl

/-! #### The Auxiliary Port -/

/-- A beat is taken while the buffer holds fewer words than the burst has (R89). -/
theorem takeBeat (h : s.OwnersAgree n) (b : BusWord) : (s.takeBeat b).OwnersAgree n := by
  unfold State.takeBeat
  split
  · next hb =>
    obtain ⟨-, d, hd, -, hlt⟩ := (AuxPort.takesBeat_iff _).1 hb
    obtain ⟨hidle, hburst, horder, hbelow⟩ := h.port
    refine h.setAp Iff.rfl ⟨hidle, fun x hx => ?_, horder, hbelow⟩
    obtain ⟨m, hm, h1, h8, -⟩ := hburst x hx
    cases hd.symm.trans hx
    refine ⟨m, hm, h1, h8, ?_⟩
    rw [List.length_append]
    simpa [hm] using hlt
  · exact h

/-- A request that is taken in IDLE closes with ERR, or waits in ORDER for its barrier set, or goes to the wake check (R87, R88). -/
theorem presentAp (h : s.OwnersAgree n) (hidle : s.ap.phase = .idle) (t : ApTerminals) : (s.presentAp t).OwnersAgree n := by
  have taken {a : AuxPort} (hp : a.phase ≠ .idle) (hb : a.phase ≠ .burst) (hd : a.desc = some (s.apDecoded t))
      (hbuf : a.buffer.length ≤ 1) (ho : a.phase = .order ↔ a.barrier ≠ []) (hlt : ∀ p ∈ a.barrier, p < s.queue.length) :
      (s.setAp a).OwnersAgree n := by
    refine h.setAp (iff_of_false hb (by simp [hidle])) ⟨iff_of_false hp (by simp [hd]), fun d hd' => ?_, ho,
      fun p hp => Nat.lt_add_right n (hlt p hp)⟩
    cases hd.symm.trans hd'
    have hlen := t.len.isLt
    exact ⟨apWords t, Tables.decode_burst_ap .., Nat.le_add_left .., by unfold apWords; omega, hbuf.trans (Nat.le_add_left ..)⟩
  cases hf : (s.apDecoded t).faulted with
  | true =>
    obtain ⟨k, hk⟩ := (Descriptor.faulted_iff _).1 hf
    rw [State.presentAp_of_fault hk]
    exact (taken (by simp) (by simp) rfl (Nat.zero_le _) (by simp) (by simp)).deliver _
  | false =>
    obtain ⟨tg, ht⟩ := Tables.decode_target_of_not_faulted _ _ _ hf
    obtain ⟨p, hp⟩ := s.exists_apPlaced tg (barrierOf s.queue tg (apWords t))
    have hlt : ∀ p ∈ barrierOf s.queue tg (apWords t), p < s.queue.length := fun _ => lt_of_mem_barrierOf
    have hbuf : (if t.wr = true then t.beat.toList else []).length ≤ 1 := by
      split
      · cases t.beat <;> simp
      · simp
    rw [State.presentAp_of_target hf ht hp]
    generalize barrierOf s.queue tg (apWords t) = b at hp hlt ⊢
    refine (taken (a := requestedPort p _ b _) ?_ ?_ rfl hbuf ?_ hlt).setRetention (s.retention.afterAccess tg.cs)
    all_goals obtain ⟨hb, rfl⟩ | ⟨hb, -, rfl⟩ | ⟨hb, -, rfl⟩ := hp <;> simp [requestedPort, hb]

theorem withdrawAp (h : s.OwnersAgree n) (hb : s.ap.phase ≠ .burst) : s.withdrawAp.OwnersAgree n := by
  unfold State.withdrawAp
  dsimp only
  split
  · exact ((h.deliver _).setAp (iff_of_false (by nofun) hb) .toIdle).setPatience 0
  · exact (h.setAp (iff_of_false (by nofun) hb) .toIdle).setPatience 0

theorem releaseAxReq (h : s.OwnersAgree n) : s.releaseAxReq.OwnersAgree n := by
  have hr : (s.setAp { s.ap with axReq := false }).OwnersAgree n := h.keepAp rfl rfl rfl rfl
  unfold State.releaseAxReq
  dsimp only
  split
  · exact hr.keepAp rfl rfl rfl rfl
  · next hp => exact hr.withdrawAp (by simp_all)
  · next hp => exact hr.withdrawAp (by simp_all)
  · next hp => exact hr.withdrawAp (by simp_all)
  · exact hr
  · next c hp =>
    split
    · exact hr
    · exact hr.setAp (iff_of_false (by nofun) (by simp_all)) .toIdle

/-- The burst's completion takes the Auxiliary Port from BURST to CLOSING, and the channel is FREE (R96, R97). -/
theorem completeAp (h : s.OwnersAgree n) (hc : s.channel.heldBy .ap = true) (w : WordTxn) :
    ((s.setTxn none).completeAp w).OwnersAgree n := by
  have hnot (x : WordHolder) (hx : x ≠ .ap) : s.channel.heldBy x = false := Channel.not_heldBy_of_heldBy hc hx
  have hp := h.burst_of_held hc
  have hsp := h.channelled_of_not_held (hnot .sp nofun)
  have hq := h.unmarked_of_not_held (hnot .head nofun)
  have closes (a : AuxPort) (c : ClosingAnswer) (beat : Option BusWord) (hd : a.desc = s.ap.desc) (hbuf : a.buffer = s.ap.buffer)
      (hbar : a.barrier = s.ap.barrier) : (a.close c beat).SoundBelow (s.queue.length + n) :=
    h.port.move (by simp [hp]) (by simp [hp]) nofun nofun hd hbuf hbar
  unfold State.completeAp
  dsimp only
  split
  · split <;> exact of_free (Channel.heldBy_of_free rfl) hsp nofun hq (closes _ _ _ rfl rfl rfl)
  · exact of_free (Channel.heldBy_of_free rfl) hsp nofun hq (closes _ _ _ rfl rfl rfl)

/-! #### Removal of the head -/

theorem releaseSp (h : s.OwnersAgree n) : s.releaseSp.OwnersAgree n := by
  have held {r : HoldReason} {d : Descriptor} (hacc : s.sp.access = .hold r d) : s.sp.channelled = none := by
    simp [SysPort.channelled, hacc]
  unfold State.releaseSp
  split
  · next d hacc =>
    split
    · exact h.offerPosted (held hacc) _ _
    · exact h
  · next d hacc =>
    split
    · exact h
    · exact (h.spWakeCheck (held hacc) _).autoResume _
  · exact h

/-- The barrier set loses the head that has left (R57). -/
theorem releaseAp (h : s.OwnersAgree 1) : s.releaseAp.OwnersAgree 0 := by
  obtain ⟨hsp, hap, hhead, hrest, hidle, hburst, horder, hbelow⟩ := h
  have hlt := lt_of_mem_barrierAfterRemoval hbelow
  unfold State.releaseAp
  split
  · next d hp hd =>
    have left (p : ApPhase) (hp' : p ≠ .idle ∧ p ≠ .burst) (ho : p = .order ↔ barrierAfterRemoval s.ap.barrier ≠ []) :
        (s.setAp { s.ap with phase := p, barrier := barrierAfterRemoval s.ap.barrier }).OwnersAgree 0 := by
      refine ⟨hsp, hap.trans ?_, hhead, hrest, iff_of_false hp'.1 (by simp [hd]), hburst, ho, hlt⟩
      rw [hp]
      exact (beq_false_of_ne hp'.2).symm
    dsimp only
    split
    · next hb =>
      have hb : ¬ barrierAfterRemoval s.ap.barrier ≠ [] := not_not.2 (List.isEmpty_iff.1 hb)
      refine State.OwnersAgree.autoResume (left (if State.descHeld _ d then .wake else .grant) ?_ ?_) d
      · split <;> simp
      · split <;> simp [hb]
    · next hb =>
      rw [List.isEmpty_iff] at hb
      have := left .order (by simp) (by simp [hb])
      rwa [← hp] at this
  · next hno =>
    have hp : s.ap.phase ≠ .order := fun hp => by
      cases hd : s.ap.desc with
      | none => simp [hidle.2 hd] at hp
      | some d => exact hno d hp hd
    have hempty : s.ap.barrier = [] := not_not.1 (mt horder.2 hp)
    exact ⟨hsp, hap, hhead, hrest, hidle, hburst, horder, by simp [hempty]⟩

/-- The drained head leaves the queue, and no entry that remains is marked (R45, R46). -/
theorem removeHead (h : s.OwnersAgree 0) (hc : s.channel.heldBy .head = true) {e : Entry} {rest : List Entry}
    (hq : s.queue = e :: rest) (timedOut : Bool) : ((s.setTxn none).removeHead e rest timedOut).OwnersAgree 0 := by
  have hnot (x : WordHolder) (hx : x ≠ .head) : s.channel.heldBy x = false := Channel.not_heldBy_of_heldBy hc hx
  have hrest : ((s.setTxn none).setQueue rest).OwnersAgree 1 := by
    refine of_free (Channel.heldBy_of_free rfl) (h.channelled_of_not_held (hnot .sp nofun))
      (h.not_burst_of_not_held (hnot .ap nofun)) (fun x hx => h.rest x (by simpa [hq] using hx)) ?_
    have hport := h.port
    rwa [hq] at hport
  unfold State.removeHead
  dsimp only
  split
  · exact (hrest.deliver _).releaseSp.releaseAp
  · exact hrest.releaseSp.releaseAp

/-! #### The Channel Sequencer, commits and time -/

theorem wordEvent (h : s.OwnersAgree n) {f : WordTxn → Option WordTxn} (hf : ∀ w w', f w = some w' → w'.holder = w.holder) :
    (s.wordEvent f).OwnersAgree n := by
  unfold State.wordEvent
  split
  · next w _ hw =>
    split
    · next w' hw' =>
      refine h.of_eq (fun x => ?_) rfl rfl rfl
      rw [Channel.heldBy_of_word hw, Channel.heldBy_of_word (w := w') rfl, hf w w' hw']
    · exact h
  · exact h

theorem commit (h : s.OwnersAgree n) (bytes : List Byte) {r : Reply} (hr : r.state.OwnersAgree n) :
    (s.commit bytes r).OwnersAgree n := by
  unfold State.commit
  split
  · exact hr.of_eq (fun _ => rfl) rfl rfl rfl
  · exact h

theorem idleStep (h : s.OwnersAgree n) : s.idleStep.OwnersAgree n := by
  unfold State.idleStep
  split
  · exact h
  · exact ⟨(s.period_heldBy _).trans h.sp, (s.period_heldBy _).trans h.ap, (s.period_heldBy _).trans h.head, h.rest,
      h.port.keep rfl rfl rfl rfl⟩

end State.OwnersAgree

end Sys2Proof.Machine

namespace Sys2Proof.Machine

/-! ### Every command keeps the agreement -/

section Replies

variable {s : State}

theorem chipselReply_keeps_owners (h : s.OwnersAgree 0) (k : Cs) (c : ChipSel) : (chipselReply s k c).state.OwnersAgree 0 := by
  unfold chipselReply
  split
  · exact h
  · rw [Reply.done_state]
    refine State.OwnersAgree.conclude ?_
    unfold State.sliceEffects
    split
    · exact h.of_eq (fun _ => rfl) rfl rfl rfl
    · split <;> exact h.of_eq (fun _ => rfl) rfl rfl rfl

theorem enterReply_keeps_owners (h : s.OwnersAgree 0) : (enterReply s).state.OwnersAgree 0 := by
  unfold enterReply
  split
  · rw [Reply.done_state]
    exact (h.setRetention _).conclude
  all_goals exact h

theorem exitReply_keeps_owners (h : s.OwnersAgree 0) : (exitReply s).state.OwnersAgree 0 := by
  unfold exitReply
  split
  · exact h
  · split
    · exact h
    · exact h.setRetention _
  · rw [Reply.done_state]
    exact (h.setRetention _).conclude
  · exact h

end Replies

theorem State.heldBy_of_endedWord {s : State} {w : WordTxn} (hw : s.endedWord = some w) (x : WordHolder) :
    s.channel.heldBy x = (w.holder == x) := by
  unfold State.endedWord at hw
  split at hw
  · next _ w' _ htxn =>
    split at hw
    · cases hw
      exact Channel.heldBy_of_word htxn x
    · cases hw
  · cases hw

/-- Every command keeps the channel's holder and its owner in agreement, and the burst's fields sound. -/
theorem exec_keeps_ownersAgree (c : Instr) {s s' : State} (h : s.OwnersAgree 0) (hx : exec c s = .next s') : s'.OwnersAgree 0 := by
  have hunits (hc : Instr.keepsUnits c = true) := exec_keeps_units hc hx
  cases c <;> injection hx with hx <;> subst hx
  case spPresentation t =>
    split
    · next hr =>
      obtain ⟨-, -, hidle, -⟩ := (s.spReady_iff t).1 hr
      exact (h.presentSp (by simp [SysPort.channelled, hidle]) t).decide
    · exact h
  case spAccessEnd =>
    split
    · exact h
    · exact h.endAccess
  case deferredPresentation =>
    split
    · exact h
    · split
      · exact h.setSp rfl
      · exact h
  case lockNRelease =>
    split
    · exact h
    · exact h.endLock.decide
  case spReleaseSeen =>
    split
    · exact h
    · exact h.setSp rfl
  case apPresentation t =>
    split
    · next hr =>
      simp only [State.apReady, Bool.and_eq_true, beq_iff_eq] at hr
      obtain ⟨-, hidle⟩ := hr
      exact (h.presentAp hidle t).decide
    · split
      · exact h
      · exact h.keepAp rfl rfl rfl rfl
  case writeBeat d =>
    split
    · exact (h.takeBeat d).decide
    · exact h
  case axReqRelease =>
    split
    · exact h
    · exact h.releaseAxReq
  case closingPeriodEnd =>
    split
    · exact h
    · split
      · next hp _ => exact h.setAp (iff_of_false (by nofun) (by simp [hp])) .toIdle
      · exact h
  case phaseEnd md => exact h.wordEvent fun _ _ => WordTxn.phaseEnd_holder
  case mrdyReady md => exact h.wordEvent fun _ _ => WordTxn.ready_holder
  case readyLimitExceeded => exact h.wordEvent fun _ _ => WordTxn.exceed_holder
  case spTransactionCompletion t =>
    split
    · next w withdrawn d hw hacc =>
      split
      · next hsp => exact (h.completeSp (by simp [State.heldBy_of_endedWord hw, hsp]) w withdrawn d t).conclude
      · exact h
    · exact h
  case drainCompletion =>
    split
    · next w e rest hw hq =>
      split
      · next hhead => exact (h.removeHead (by simp [State.heldBy_of_endedWord hw, hhead]) hq w.timedOut).conclude
      · exact h
    · exact h
  case burstWordEnd =>
    split
    · next w hw =>
      split
      · have hap : (s.setAp { s.ap with performed := s.ap.performed + 1, beat := w.beat }).OwnersAgree 0 :=
          h.keepAp rfl rfl rfl rfl
        refine hap.of_eq (fun x => ?_) rfl rfl rfl
        rw [State.setAp_channel, State.heldBy_of_endedWord hw, Channel.heldBy_of_word rfl, WordTxn.beginWord_holder]
      · exact h
    · exact h
  case burstCompletion =>
    split
    · next w hw =>
      split
      · next hlast =>
        obtain ⟨hap, -⟩ := hlast
        exact (h.completeAp (by simp [State.heldBy_of_endedWord hw, hap]) w).conclude
      · exact h
    · exact h
  case refreshCompletion =>
    split
    · next k hk => exact ((h.freeSlice hk).setSlice _ _).conclude
    · exact h
  case selfEnterCompletion | selfExitCompletion =>
    split
    · next k hk => exact (((h.freeSlice hk).setSlice _ _).setRetention _).conclude
    · exact h
  case intervalExpiry k =>
    dsimp only
    split
    · split
      · exact (h.setSlice k _).decide
      · exact ((h.setSlice k _).deliver _).decide
    · exact h
  case exitTimerExpiry k =>
    dsimp only
    split
    · exact (h.setSlice k _).conclude
    · exact h
  case frameStart | frameEnd | unknownOpcode | getSummary | readItem | writeRegion | writeProfile | writeBankwin
      | writeQueueWatermark | writeAlertEnables | popFault | peekFault | clearCauses => exact h.of_sameUnits (hunits rfl)
  case writeChipsel k p => exact h.commit _ (chipselReply_keeps_owners h k _)
  case enterRetention => exact h.commit _ (enterReply_keeps_owners h)
  case exitRetention => exact h.commit _ (exitReply_keeps_owners h)
  case configReset =>
    refine h.commit _ ?_
    unfold configResetReply
    split
    · exact h.of_eq (fun _ => rfl) rfl rfl rfl
    · exact h
  case pinReset =>
    have hreset := State.reset.ownersAgree_iff.2 ⟨State.reset_holderAgrees, State.reset_burstSound⟩
    exact hreset.of_eq (fun _ => rfl) rfl rfl rfl
  case resetRelease l =>
    split
    · exact ⟨h.sp, h.ap, h.head, h.rest, h.port.keep rfl rfl rfl rfl⟩
    · exact h

/-- Settles O58: the two invariants are one agreement of the channel, the ports and the queue, kept by every command and by the idle
step. -/
theorem stepKeepsHoldersAndBurstSound : Obligations.StepKeepsHoldersAndBurstSound := by
  intro s s' hholder hburst hx
  have h := s.ownersAgree_iff.2 ⟨hholder, hburst⟩
  rw [← State.ownersAgree_iff]
  unfold step at hx
  split at hx
  · cases hx
    exact h.idleStep
  · rename_i c rest _
    have hrest : ({ s with pending := rest } : State).OwnersAgree 0 := h.of_eq (fun _ => rfl) rfl rfl rfl
    exact exec_keeps_ownersAgree c hrest hx

end Sys2Proof.Machine

/-! ## Forwarding, the drained word and the removal of the head (O18, O19) -/

namespace Sys2Proof.Machine

/-! ### Lanes of a word -/

@[simp] theorem upper_joinBytes (u l : Byte) : upper (joinBytes u l) = u := by
  unfold upper joinBytes
  exact BitVec.extractLsb'_append_eq_left

@[simp] theorem lower_joinBytes (u l : Byte) : lower (joinBytes u l) = l := by
  unfold lower joinBytes
  exact BitVec.extractLsb'_append_eq_right

/-! ### The forward check -/

/-- The entry is for the target's word (R50). -/
theorem Entry.at_iff (e : Entry) (t : Target) : e.at t = true ↔ e.cs = t.cs ∧ e.phys = t.phys := by
  simp [Entry.at]

/-- The entries for the target's word, oldest first (R50). -/
def entriesAt (q : List Entry) (t : Target) : List Entry := q.filter (·.at t)

/-- No entry for the word holds the lane exactly when the youngest holder is absent (R51). -/
theorem youngest_isSome_iff (q : List Entry) (t : Target) (lane : Lanes → Bool) :
    (youngest (entriesAt q t) lane).isSome = true ↔ ∃ e ∈ q, e.cs = t.cs ∧ e.phys = t.phys ∧ lane e.lanes = true := by
  simp [youngest, entriesAt, Entry.at_iff, List.find?_isSome, and_assoc]

theorem entriesAt_isEmpty_iff (q : List Entry) (t : Target) :
    (entriesAt q t).isEmpty = true ↔ ¬ ∃ e ∈ q, e.cs = t.cs ∧ e.phys = t.phys := by
  simp [entriesAt, List.filter_eq_nil_iff, Entry.at_iff]

/-- Every requested lane is held by an entry for the word (R50). -/
def Covered (q : List Entry) (t : Target) (m : Lanes) : Prop :=
  (m.hasU = true → (youngest (entriesAt q t) Lanes.hasU).isSome = true)
    ∧ (m.hasL = true → (youngest (entriesAt q t) Lanes.hasL).isSome = true)

/-- The word of a forwarded answer (R51). -/
def forwardedWord (q : List Entry) (t : Target) (m : Lanes) : BusWord :=
  joinBytes (forwardLane m.hasU (youngest (entriesAt q t) Lanes.hasU) upper)
    (forwardLane m.hasL (youngest (entriesAt q t) Lanes.hasL) lower)

/-- The three outcomes of R50's table. -/
theorem forwardCheck_eq (q : List Entry) (t : Target) (m : Lanes) [Decidable (Covered q t m)] :
    forwardCheck q t m =
      if (entriesAt q t).isEmpty then .miss else if Covered q t m then .hit (forwardedWord q t m) else .part := by
  have hcov : ((!m.hasU || (youngest (entriesAt q t) Lanes.hasU).isSome)
      && (!m.hasL || (youngest (entriesAt q t) Lanes.hasL).isSome)) = true ↔ Covered q t m := by
    unfold Covered
    cases m.hasU <;> cases m.hasL <;> simp
  unfold forwardCheck
  dsimp only
  rw [← entriesAt]
  simp only [hcov]
  rfl

/-! ### The drained word -/

theorem youngest_concat (ms : List Entry) (e : Entry) (lane : Lanes → Bool) :
    youngest (ms ++ [e]) lane = if lane e.lanes then some e else youngest ms lane := by
  cases h : lane e.lanes <;> simp [youngest, h]

theorem entriesAt_concat (q : List Entry) (e : Entry) (t : Target) :
    entriesAt (q ++ [e]) t = if e.cs = t.cs ∧ e.phys = t.phys then entriesAt q t ++ [e] else entriesAt q t := by
  unfold entriesAt
  rw [List.filter_append, List.filter_singleton]
  by_cases h : e.cs = t.cs ∧ e.phys = t.phys
  · rw [if_pos h, (e.at_iff t).2 h]
    rfl
  · rw [if_neg h, Bool.eq_false_iff.2 (mt (e.at_iff t).1 h)]
    exact List.append_nil _

theorem drainedWord_concat (q : List Entry) (e : Entry) (t : Target) (before : BusWord) :
    drainedWord (q ++ [e]) t before =
      if e.cs = t.cs ∧ e.phys = t.phys then e.writeInto (drainedWord q t before) else drainedWord q t before := by
  rw [drainedWord, List.foldl_append]
  rfl

/-- The drain of the entries for a word leaves in a lane the youngest holder's byte, or the byte that was there (R32, R35, R46). -/
theorem drainedWord_lane (q : List Entry) (t : Target) (before : BusWord) {byte : BusWord → Byte} {lane : Lanes → Bool}
    (hlane : ∀ (e : Entry) (x : BusWord), byte (e.writeInto x) = if lane e.lanes then byte e.data else byte x) :
    byte (drainedWord q t before) = ((youngest (entriesAt q t) lane).map (fun e => byte e.data)).getD (byte before) := by
  induction q using List.reverseRecOn with
  | nil => rfl
  | append_singleton q e ih =>
    rw [drainedWord_concat, entriesAt_concat]
    split
    · rw [hlane, youngest_concat, ih]
      split <;> rfl
    · exact ih

/-- A forwarded lane that a holder answers, or that is not requested, is the drained word's, or FFh (R51). -/
theorem forwardLane_eq {q : List Entry} {t : Target} {before : BusWord} {requested : Bool} {byte : BusWord → Byte}
    {lane : Lanes → Bool}
    (hlane : ∀ (e : Entry) (x : BusWord), byte (e.writeInto x) = if lane e.lanes then byte e.data else byte x)
    (hheld : requested = true → (youngest (entriesAt q t) lane).isSome = true) :
    forwardLane requested (youngest (entriesAt q t) lane) byte = if requested then byte (drainedWord q t before) else 0xFF := by
  cases requested with
  | false => rfl
  | true =>
    obtain ⟨e, he⟩ := Option.isSome_iff_exists.1 (hheld rfl)
    simp [forwardLane, drainedWord_lane q t before hlane, he]

/-- Settles O18: the table by `forwardCheck_eq`; a hit's word lane by lane by `forwardLane_eq`. -/
theorem forwardHitEqualsTheDrainedWord : Obligations.ForwardHitEqualsTheDrainedWord := by
  classical
  refine ⟨fun q t m => ?_, fun q t m w before h => ?_⟩
  · dsimp only
    have hcov : Covered q t m ↔ _ ∧ _ :=
      and_congr (imp_congr_right fun _ => youngest_isSome_iff q t Lanes.hasU)
        (imp_congr_right fun _ => youngest_isSome_iff q t Lanes.hasL)
    rw [forwardCheck_eq, ← hcov]
    refine ⟨fun hno => ?_, fun hn hc => ⟨forwardedWord q t m, ?_⟩, fun hn hc => ?_⟩
    · rw [if_pos ((entriesAt_isEmpty_iff q t).2 hno)]
    · rw [if_neg (mt (entriesAt_isEmpty_iff q t).1 (not_not.2 hn)), if_pos hc]
    · rw [if_neg (mt (entriesAt_isEmpty_iff q t).1 (not_not.2 hn)), if_neg hc]
  · rw [forwardCheck_eq] at h
    split at h
    · cases h
    · split at h
      · next hc =>
        cases h
        rw [forwardedWord, laneWord, forwardLane_eq (before := before) (fun e x => upper_joinBytes ..) hc.1,
          forwardLane_eq (before := before) (fun e x => lower_joinBytes ..) hc.2]
      · cases h

/-! ### The releases that follow a removal -/

section Releases

variable {s : State} {d : Descriptor} {tg : Target}

/-- A write held in FULL is offered again (R38). -/
theorem State.releaseSp_of_full (h : s.sp.access = .hold .full d) (ht : d.target = some tg) : s.releaseSp = s.offerPosted d tg := by
  rw [State.releaseSp, h]
  simp only [ht]

/-- An access in ORDER is examined again (R58). -/
theorem State.releaseSp_of_order (h : s.sp.access = .hold .order d) :
    s.releaseSp = if orderWaits s.queue d then s else (s.spWakeCheck d).autoResume d := by
  rw [State.releaseSp, h]

/-- An access in no such hold waits for no removal. -/
theorem State.releaseSp_of_not_waiting (h : ∀ d, s.sp.access ≠ .hold .full d ∧ s.sp.access ≠ .hold .order d) : s.releaseSp = s := by
  unfold State.releaseSp
  split
  · next x hx => exact absurd hx (h x).1
  · next x hx => exact absurd hx (h x).2
  · rfl

theorem State.releaseAp_of_not_order (h : s.ap.phase ≠ .order) : s.releaseAp = s := by
  unfold State.releaseAp
  split
  · next hp _ => exact absurd hp h
  · rfl

/-- A request in ORDER loses the head from its barrier set, and once the set is empty goes to the wake check (R57, R58, R90). -/
theorem State.releaseAp_of_order (hp : s.ap.phase = .order) (hd : s.ap.desc = some d) :
    s.releaseAp =
      if (barrierAfterRemoval s.ap.barrier).isEmpty then
        ((s.setAp { s.ap with barrier := barrierAfterRemoval s.ap.barrier }).apWakeCheck d).autoResume d
      else s.setAp { s.ap with barrier := barrierAfterRemoval s.ap.barrier } := by
  rw [State.releaseAp, hp, hd]

theorem barrierAfterRemoval_eq (b : List Nat) : barrierAfterRemoval b = (b.filter (· ≠ 0)).map (· - 1) :=
  congrArg (List.map (· - 1)) (List.filter_congr fun x _ => by rw [Bool.eq_iff_iff]; simp)

/-- The barrier set is empty after a removal when it named the head alone (R57). -/
theorem barrierAfterRemoval_eq_nil_iff {b : List Nat} : barrierAfterRemoval b = [] ↔ ∀ x ∈ b, x = 0 := by
  simp [barrierAfterRemoval, List.filter_eq_nil_iff]

/-- A write that is taken on its second offer is answered; one that is not stays in FULL as it was (R38). -/
theorem State.offerPosted_of_full (h : s.sp.access = .hold .full d) (hno : offer s.queue (newEntry d tg) = none) :
    s.offerPosted d tg = s := by
  rw [State.offerPosted, hno]
  dsimp only
  rw [← h]
  rfl

end Releases

/-- The drain's completion takes the head off the queue, with its LATE_WRITE on a timeout (R46, R47). -/
theorem exec_drainCompletion {s : State} {w : WordTxn} {e : Entry} {rest : List Entry} (hw : s.WordEnded w .head)
    (hq : s.queue = e :: rest) :
    exec .drainCompletion s = .next ((s.setTxn none).removeHead e rest w.timedOut).conclude := by
  obtain ⟨-, -, -, hhead⟩ := id hw
  show execDrainCompletion s = _
  rw [execDrainCompletion, s.endedWord_of_wordEnded w _ hw, hq]
  dsimp only
  rw [if_pos hhead]

/-- Settles O19: the removal, then each port's release by the hold it is in. -/
theorem drainCompletionRemovesTheHead : Obligations.DrainCompletionRemovesTheHead := by
  refine ⟨fun s w e rest hw hq => ?_, fun s d tg q hacc ht hoffer => ?_, fun s d tg hacc ht hoffer => ?_,
    fun s => State.releaseSp_of_not_waiting, fun s => State.releaseAp_of_not_order, fun s d tg why hacc ht hclear hw => ?_,
    fun s d tg hacc ht hwaits => ?_, fun s d tg p hp hd ht hempty hw => ?_, fun s d hp hd hrest => ?_⟩
  · rw [exec_drainCompletion hw hq, State.removeHead]
    cases w.timedOut <;> rfl
  · rw [State.releaseSp_of_full hacc ht, State.offerPosted, hoffer]
    rfl
  · rw [State.releaseSp_of_full hacc ht, State.offerPosted_of_full hacc hoffer]
  · have hno : ¬ orderWaits s.queue d = true := by
      rw [orderWaits_iff _ _ tg ht]
      exact fun ⟨e, he, hc⟩ => hclear e he hc
    rw [State.releaseSp_of_order hacc, if_neg hno, State.spWakeCheck_autoResume ht hw]
  · rw [State.releaseSp_of_order hacc, if_pos ((orderWaits_iff _ _ tg ht).2 hwaits)]
  · have hnil := barrierAfterRemoval_eq_nil_iff.2 hempty
    have hrel : s.releaseAp = ((s.setAp { s.ap with barrier := [] }).apWakeCheck d).autoResume d := by
      rw [State.releaseAp_of_order hp hd, hnil]
      rfl
    rw [hrel, State.apWakeCheck_autoResume ht (s := s.setAp { s.ap with barrier := [] }) hw]
    rfl
  · obtain ⟨x, hx, hx0⟩ := hrest
    have hne : ¬ (barrierAfterRemoval s.ap.barrier).isEmpty = true := by
      rw [List.isEmpty_iff, barrierAfterRemoval_eq_nil_iff]
      exact fun h => hx0 (h x hx)
    rw [State.releaseAp_of_order hp hd, if_neg hne, barrierAfterRemoval_eq]
    rfl

end Sys2Proof.Machine

/-! ## The Management Port's frames (O42) -/

namespace Sys2Proof.Machine

/-! ### The summary byte -/

/-- The fields of a summary byte (R172). -/
theorem summaryByte_fields (c : BitVec 2) (alert log flag pressure : Bool) (o : BitVec 2) :
    let x : Byte := c ++ BitVec.ofBool alert ++ BitVec.ofBool log ++ BitVec.ofBool flag ++ BitVec.ofBool pressure ++ o
    x.toNat / 64 = c.toNat ∧ x.getLsbD 5 = alert ∧ x.getLsbD 4 = log ∧ x.getLsbD 3 = flag ∧ x.getLsbD 2 = pressure
      ∧ x.toNat % 4 = o.toNat := by
  decide +revert

theorem State.summary_fields (s : State) :
    s.summary.toNat / 64 = s.retention.state.code.toNat ∧ s.summary.getLsbD 5 = s.faults.alert
      ∧ s.summary.getLsbD 4 = s.faults.logCause ∧ s.summary.getLsbD 3 = s.mp.errorFlag ∧ s.summary.getLsbD 2 = s.pressure
      ∧ s.summary.toNat % 4 = (coarseOccupancy s.queue.length).toNat :=
  summaryByte_fields ..

theorem FaultUnit.logCause_iff (u : FaultUnit) : u.logCause = true ↔ u.log ≠ [] := by
  simp [FaultUnit.logCause]

theorem State.pressure_iff (s : State) : s.pressure = true ↔ s.tables.watermark ≤ s.queue.length :=
  decide_eq_true_iff

/-- The coarse occupancy by its ranges (R61). -/
theorem coarseOccupancy_toNat {n : Nat} :
    (coarseOccupancy n).toNat = if n = 0 then 0 else if n ≤ 7 then 1 else if n ≤ 15 then 2 else 3 := by
  simp only [coarseOccupancy, Nat.lt_succ_iff]
  (repeat' split) <;> rfl

/-! ### A byte shifted into the frame -/

/-- A byte received below the commit point moves the frame to the part that the bytes received so far say (R171). -/
theorem Frame.shift_received {f : Frame} (hp : f.phase = .opcode ∨ f.phase = .argument ∨ f.phase = .payload)
    (hdue : f.commitDue = false) (b : Byte) :
    f.shift b = { f with phase := nextPhase (f.received ++ [b]) f.phase, received := f.received ++ [b] } := by
  rw [Frame.shift_before_commit hp, hdue]
  rfl

theorem Frame.commitDue_nil {f : Frame} (hr : f.received = []) : f.commitDue = false := by
  simp [Frame.commitDue, hr]

/-- Below the commit point the opcode's bytes are not all there (R173). -/
theorem Frame.not_commitDue {f : Frame} {op : Byte} {rest : List Byte} (hn : f.result = none) (hr : f.received = op :: rest)
    (hlt : rest.length < 1 + payloadBytes op) : f.commitDue = false := by
  rw [Bool.eq_false_iff]
  exact mt (Frame.commitDue_cons hn hr).1 (Nat.ne_of_lt hlt)

/-- The argument byte is followed by the payload, if the opcode has one (R171). -/
theorem nextPhase_argument (op b : Byte) :
    nextPhase [op, b] .argument = if payloadBytes op = 0 then .argument else .payload := by
  by_cases h : payloadBytes op = 0 <;> simp [nextPhase, commitLength, h]

/-- The payload stays the payload up to the commit point (R171). -/
theorem nextPhase_payload (op b : Byte) (rest : List Byte) : nextPhase (op :: rest ++ [b]) .payload = .payload := by
  cases rest <;> simp [nextPhase]

/-- Settles O42: the frame's start and end by their conditions, the summary by `State.summary_fields`, and each shift by the phase it
begins in. -/
theorem framesTakeTheSummaryAndFlagShortOnes : Obligations.FramesTakeTheSummaryAndFlagShortOnes := by
  refine ⟨fun s hreset => ?_, fun f b => ?_⟩
  · obtain ⟨hstate, halert, hlog, hflag, hpressure, hocc⟩ := s.summary_fields
    refine ⟨fun hseen hno => ?_, fun hseen => ?_, fun f hf => ?_, fun hno => ?_, ?_, halert, ?_, hflag, ?_, fun _ => ?_⟩
    · show execFrameStart s = _
      rw [execFrameStart, if_pos (by simp [hreset, hseen, hno])]
      rfl
    · show execFrameStart s = _
      rw [execFrameStart, if_neg (by simp [hseen])]
    · show execFrameEnd s = _
      rw [execFrameEnd, if_neg (by simp [hreset]), hf]
      cases hr : f.result <;> simp [State.setMp, hr]
    · show execFrameEnd s = _
      rw [execFrameEnd, if_neg (by simp [hreset]), hno]
      rfl
    · exact hstate.trans (by cases s.retention.state <;> rfl)
    · rw [hlog, FaultUnit.logCause_iff]
    · rw [hpressure, State.pressure_iff]
    · exact hocc.trans coarseOccupancy_toNat
  · refine ⟨fun hn hp hr => ?_, fun op hn hp hr => ?_, fun op rest hn hp hr hlt => ?_, fun hp => ?_, fun x rest hp hd => ?_,
      fun hp => ?_⟩
    · rw [Frame.shift_received (.inl hp) (Frame.commitDue_nil hr), hr]
      rfl
    · rw [Frame.shift_received (.inr (.inl hp)) (Frame.not_commitDue hn hr (Nat.zero_lt_of_ne_zero (by simp))), hr, hp]
      exact congrArg (fun p => { f with phase := p, received := [op, b] }) (nextPhase_argument op b)
    · rw [Frame.shift_received (.inr (.inr hp)) (Frame.not_commitDue hn hr hlt), hr, hp, nextPhase_payload, ← hp]
    · cases hd : f.data <;> simp [Frame.shift, hp, hd]
    · cases rest <;> simp [Frame.shift, hp, hd]
    · simp [Frame.shift, hp]

end Sys2Proof.Machine

/-! ## While a lock is held the queue holds no entry for its chip select (O57) -/

namespace Sys2Proof.Machine

/-! ### The chip selects kept clear -/

/-- The access is past its ORDER hold: in WAKE or GRANT, or on the channel (R55). -/
def SpAccess.passed : SpAccess → Option Descriptor
  | .hold .wake d => some d
  | .hold .grant d => some d
  | .channel _ d => some d
  | _ => none

/-- The LOCKED read `d`, if it is one, takes its lock for chip select `k` (R77). -/
def Descriptor.LocksFor (d : Descriptor) (k : Cs) : Prop := d.disposition = .lockedRead ∧ ∃ t ∈ d.target, t.cs = k

/-- The port keeps the queue clear of chip select `k`: a held lock's, or that of a LOCKED read past its ORDER hold (R55, R78). -/
def SysPort.KeepsClear (p : SysPort) (k : Cs) : Prop := (∃ l ∈ p.lock, l.cs = k) ∨ ∃ d ∈ p.access.passed, d.LocksFor k

/-- The queue is clear of the chip selects that the port keeps clear, and a write held in FULL has ended the lock (R78, R80). -/
structure State.LockClear (s : State) : Prop where
  queue : ∀ e ∈ s.queue, ¬ s.sp.KeepsClear e.cs
  full : s.sp.fullHeld.isSome = true → s.sp.lock = none

theorem SysPort.mem_passed_iff {p : SysPort} {d : Descriptor} :
    d ∈ p.access.passed ↔ (∃ x ∈ p.held, (x.1 = .wake ∨ x.1 = .grant) ∧ x.2 = d) ∨ d ∈ p.channelled := by
  unfold SpAccess.passed SysPort.held SysPort.channelled
  cases p.access with
  | hold r x => cases r <;> simp [eq_comm]
  | _ => simp

theorem State.lockClear_iff (s : State) : s.LockClear ↔ s.LockClearsQueue := by
  constructor
  · rintro ⟨hqueue, hfull⟩
    refine ⟨fun l hl e he hcs => hqueue e he (.inl ⟨l, hl, hcs.symm⟩), fun x hx hr hd t ht e he hcs => ?_,
      fun d hd hl t ht e he hcs => ?_, hfull⟩
    · exact hqueue e he (.inr ⟨x.2, SysPort.mem_passed_iff.2 (.inl ⟨x, hx, hr, rfl⟩), hd, t, ht, hcs.symm⟩)
    · exact hqueue e he (.inr ⟨d, SysPort.mem_passed_iff.2 (.inr hd), hl, t, ht, hcs.symm⟩)
  · rintro ⟨hlock, hheld, hchannel, hfull⟩
    refine ⟨fun e he => ?_, hfull⟩
    rintro (⟨l, hl, hcs⟩ | ⟨d, hd, hl, t, ht, hcs⟩)
    · exact hlock l hl e he hcs.symm
    · obtain ⟨x, hx, hr, rfl⟩ | hd := SysPort.mem_passed_iff.1 hd
      · exact hheld x hx hr hl t ht e he hcs.symm
      · exact hchannel d hd hl t ht e he hcs.symm

/-- The lock after a completion is the lock before, or the one that a LOCKED read takes (R77, R79). -/
theorem mem_lockAfter {lock : Option Lock} {withdrawn timedOut lockN : Bool} {d : Descriptor} {l : Lock}
    (h : l ∈ lockAfter lock withdrawn d timedOut lockN) : l ∈ lock ∨ withdrawn = false ∧ d.LocksFor l.cs := by
  unfold lockAfter at h
  split at h
  · next hd =>
    split at h
    · next hc =>
      obtain ⟨t, ht, rfl⟩ := Option.map_eq_some_iff.1 h
      simp only [Bool.and_eq_true, Bool.not_eq_true'] at hc
      obtain ⟨⟨hwithdrawn, -⟩, -⟩ := hc
      exact .inr ⟨hwithdrawn, hd, t, ht, rfl⟩
    · exact .inl h
  · cases h
  · exact .inl h

/-- A LOCKED read that need not wait in ORDER finds the queue clear of its chip select (R55). -/
theorem Descriptor.not_locksFor_of_not_orderWaits {d : Descriptor} {q : List Entry} (h : ¬ orderWaits q d = true) {e : Entry}
    (he : e ∈ q) : ¬ d.LocksFor e.cs := by
  rintro ⟨hd, t, ht, hcs⟩
  exact h ((orderWaits_iff q d t ht).2 ⟨e, he, by simp [hd, hcs]⟩)

/-! ### One lemma per operation of the state -/

namespace State.LockClear

variable {s : State}

/-- Fewer chip selects in the queue, and no more that are kept clear. -/
theorem mono {s' : State} (h : s.LockClear) (hq : ∀ e ∈ s'.queue, ∃ x ∈ s.queue, x.cs = e.cs)
    (hk : ∀ k, s'.sp.KeepsClear k → s.sp.KeepsClear k) (hf : s'.sp.fullHeld.isSome = true → s'.sp.lock = none) : s'.LockClear := by
  refine ⟨fun e he hc => ?_, hf⟩
  obtain ⟨x, hx, hcs⟩ := hq e he
  exact h.queue x hx (hcs ▸ hk _ hc)

theorem of_eq {s' : State} (h : s.LockClear) (hq : s'.queue = s.queue) (ha : s'.sp.access = s.sp.access)
    (hl : s'.sp.lock = s.sp.lock) : s'.LockClear := by
  have hfull : s'.sp.fullHeld = s.sp.fullHeld := by rw [SysPort.fullHeld, ha, SysPort.fullHeld]
  refine h.mono (fun e he => ⟨e, hq ▸ he, rfl⟩) (fun k hk => ?_) ?_
  · rwa [SysPort.KeepsClear, ha, hl] at hk
  · rw [hfull, hl]
    exact h.full

theorem of_sameUnits {s' : State} (h : s.LockClear) (hu : s.SameUnits s') : s'.LockClear :=
  h.of_eq hu.queue (congrArg _ hu.sp) (congrArg _ hu.sp)

/-- A port with no lock and no access past its ORDER hold keeps nothing clear. -/
theorem of_unlocked (hl : s.sp.lock = none) (hp : s.sp.access.passed = none) : s.LockClear := by
  refine ⟨fun e _ => ?_, fun _ => hl⟩
  rw [SysPort.KeepsClear, hl, hp]
  simp

/-- A queue that loses entries stays clear. -/
theorem setQueue (h : s.LockClear) {q : List Entry} (hq : ∀ e ∈ q, ∃ x ∈ s.queue, x.cs = e.cs) : (s.setQueue q).LockClear :=
  h.mono hq (fun _ hk => hk) h.full

/-- An access that is neither held in FULL nor a LOCKED read for a queued chip select keeps the queue clear. -/
theorem setAccess (h : s.LockClear) {a : SpAccess} (hf : ∀ d, a ≠ .hold .full d)
    (hp : ∀ d ∈ a.passed, ∀ e ∈ s.queue, ¬ d.LocksFor e.cs) : (s.setAccess a).LockClear := by
  refine ⟨fun e he hk => ?_, fun hfull => ?_⟩
  · obtain hlock | ⟨d, hd, hl⟩ := hk
    · exact h.queue e he (.inl hlock)
    · exact hp d hd e he hl
  · unfold SysPort.fullHeld at hfull
    split at hfull
    · next d hd => exact absurd hd (hf d)
    · cases hfull

/-- The access past its ORDER hold stays past it. -/
theorem keepPassed (h : s.LockClear) {a : SpAccess} (hf : ∀ d, a ≠ .hold .full d) (hp : a.passed = s.sp.access.passed) :
    (s.setAccess a).LockClear :=
  h.setAccess hf fun d hd e he hl => h.queue e he (.inr ⟨d, hp ▸ hd, hl⟩)

/-- The end of an access, or its answer. -/
theorem leave (h : s.LockClear) {a : SpAccess} (hf : ∀ d, a ≠ .hold .full d) (hp : a.passed = none) : (s.setAccess a).LockClear :=
  h.setAccess hf fun d hd => by simp [hp] at hd

theorem endLock (h : s.LockClear) : s.endLock.LockClear := by
  refine h.mono (fun e he => ⟨e, he, rfl⟩) (fun k hk => ?_) (fun _ => rfl)
  obtain ⟨l, hl, -⟩ | hpassed := hk
  · cases hl
  · exact .inr hpassed

theorem deliver (h : s.LockClear) (o : Occurrence) : (s.deliver o).LockClear := h.of_eq rfl rfl rfl

theorem setTables (h : s.LockClear) (x : Tables) : (s.setTables x).LockClear := h.of_eq rfl rfl rfl

theorem setTxn (h : s.LockClear) (t : Option Txn) : (s.setTxn t).LockClear := h.of_eq rfl rfl rfl

theorem setSlice (h : s.LockClear) (k : Cs) (x : Slice) : (s.setSlice k x).LockClear := h.of_eq rfl rfl rfl

theorem setRetention (h : s.LockClear) (x : Retention) : (s.setRetention x).LockClear := h.of_eq rfl rfl rfl

/-! #### The wake condition, the Retention Controller and the Arbiter -/

theorem rewakeSp (h : s.LockClear) : s.rewakeSp.LockClear := by
  unfold State.rewakeSp
  split
  · next d hacc =>
    split
    · exact h
    · exact h.keepPassed nofun (by simp [hacc, SpAccess.passed])
  · next d hacc =>
    split
    · exact h.keepPassed nofun (by simp [hacc, SpAccess.passed])
    · exact h
  · exact h

theorem rewake (h : s.LockClear) : s.rewake.LockClear :=
  h.rewakeSp.of_eq (by simp [State.rewake]) (by simp [State.rewake]) (by simp [State.rewake])

theorem sequenceBegin (h : s.LockClear) : s.sequenceBegin.LockClear := h.of_eq (by simp) (by simp) (by simp)

theorem sequenceEnd (h : s.LockClear) : s.sequenceEnd.LockClear := h.of_eq (by simp) (by simp) (by simp)

theorem resumeEnd (h : s.LockClear) : s.resumeEnd.LockClear := h.of_eq (by simp) (by simp) (by simp)

theorem settle (h : s.LockClear) : s.settle.LockClear := h.rewake.sequenceBegin.rewake.sequenceEnd.resumeEnd.rewake

theorem autoResume (h : s.LockClear) (d : Descriptor) : (s.autoResume d).LockClear := h.of_eq (by simp) (by simp) (by simp)

/-- The grant of a standing System Port request takes the access from GRANT to the channel (R70). -/
theorem grant (h : s.LockClear) {l : Level} {r : Request} (hr : (l, r) ∈ s.requests) : (s.grant r).LockClear := by
  match r with
  | .refresh k => exact h.of_eq rfl rfl rfl
  | .command k .enter => exact h.of_eq rfl rfl rfl
  | .command k .exit => exact h.of_eq rfl rfl rfl
  | .ap d t => exact h.of_eq rfl rfl rfl
  | .sp d t =>
    obtain ⟨hacc, -⟩ := State.spRequest_eq_some.1 (State.mem_requests_sp.1 hr).1
    exact (h.keepPassed (a := .channel false d) nofun (by rw [hacc]; rfl)).of_eq rfl rfl rfl
  | .head e => exact (h.setQueue fun _ => markHead_mem_cs).of_eq rfl rfl rfl

theorem decide (h : s.LockClear) : s.decide.LockClear := by
  cases hc : s.channel.txn with
  | some x =>
    rw [s.decide_of_busy x hc]
    exact h
  | none =>
    obtain ⟨-, heq⟩ | ⟨l, r, hmem, -, heq⟩ := State.decide_of_free hc
    · rw [heq]
      exact h
    · rw [heq]
      exact h.grant hmem

theorem conclude (h : s.LockClear) : s.conclude.LockClear := h.settle.decide

/-! #### The System Port -/

/-- A posted write is offered with no lock held, so nothing is kept clear (R80). -/
theorem offerPosted (hl : s.sp.lock = none) (d : Descriptor) (t : Target) : (s.offerPosted d t).LockClear := by
  unfold State.offerPosted
  split <;> exact of_unlocked hl rfl

/-- An access that no longer waits in ORDER finds the queue clear of its chip select (R55, R58). -/
theorem spWakeCheck (h : s.LockClear) {d : Descriptor} (ho : ¬ orderWaits s.queue d = true) : (s.spWakeCheck d).LockClear := by
  refine h.setAccess (by split <;> simp) fun x hx e he => ?_
  have hxd : d = x := by
    split at hx <;> exact Option.some.inj hx
  exact hxd ▸ Descriptor.not_locksFor_of_not_orderWaits ho he

theorem placeSp (h : s.LockClear) {d : Descriptor} (hl : d.disposition = .posted → s.sp.lock = none) : (s.placeSp d).LockClear := by
  unfold State.placeSp
  split
  · next t hd _ => exact offerPosted (hl hd) d t
  · split
    · exact h.leave nofun rfl
    · next ho => exact h.spWakeCheck ho

theorem handOnSp (h : s.LockClear) {d : Descriptor} (hl : d.disposition = .posted → s.sp.lock = none) : (s.handOnSp d).LockClear := by
  unfold State.handOnSp
  split
  · exact h.leave nofun rfl
  · exact (h.placeSp hl).autoResume d

/-- Only a LOCKED write is handed on with a lock held, and it is not posted (R12, R80). -/
theorem presentSp (h : s.LockClear) (t : SpTerminals) : (s.presentSp t).LockClear := by
  rw [State.presentSp_eq]
  split
  · exact (h.endLock.deliver _).leave nofun rfl
  · next hd => exact (h.setTables (s.tables.capture (s.spDecoded t))).handOnSp (by simp [hd])
  · exact (h.endLock.setTables (s.tables.capture (s.spDecoded t))).handOnSp fun _ => rfl

/-- A LOCKED read that takes the lock was on the channel, the queue clear of its chip select (R77, R78). -/
theorem completeSp (h : s.LockClear) {w : WordTxn} {withdrawn : Bool} {d : Descriptor} (hacc : s.sp.access = .channel withdrawn d)
    (t : SpTerminals) : (s.completeSp w withdrawn d t).LockClear := by
  have left (p : SysPort) (hlock : p.lock = lockAfter s.sp.lock withdrawn d w.timedOut t.lock) (hf : p.fullHeld = none)
      (hp : p.access.passed = none) : ((s.noteTimeout w d).setSp p).LockClear := by
    refine h.mono (fun e he => ⟨e, by simpa using he, rfl⟩) (fun k hk => ?_) (by simp [hf])
    simp only [State.setSp_sp, SysPort.KeepsClear, hlock, hp] at hk
    obtain ⟨l, hl, rfl⟩ | ⟨x, hx, -⟩ := hk
    · obtain hl | ⟨-, hd⟩ := mem_lockAfter hl
      · exact .inl ⟨l, hl, rfl⟩
      · exact .inr ⟨d, by simp [hacc, SpAccess.passed], hd⟩
    · cases hx
  cases withdrawn with
  | true =>
    rw [State.completeSp_of_withdrawn]
    split
    · exact (left _ rfl rfl rfl).presentSp t
    · exact left _ rfl rfl rfl
  | false =>
    rw [State.completeSp_of_not_withdrawn]
    refine left _ rfl ?_ ?_ <;> unfold answerOf <;> split <;> rfl

theorem endAccess (h : s.LockClear) : s.endAccess.LockClear := by
  unfold State.endAccess
  split
  · exact h
  · exact h.leave nofun rfl
  · dsimp only
    split
    · exact ((h.deliver _).endLock.leave (a := .idle) nofun rfl).decide
    · exact ((h.deliver _).leave (a := .idle) nofun rfl).decide
  · next d hacc => exact h.keepPassed nofun (by simp [hacc, SpAccess.passed])
  · exact h.of_eq rfl rfl rfl

/-! #### The Auxiliary Port -/

theorem presentAp (h : s.LockClear) (t : ApTerminals) : (s.presentAp t).LockClear := h.of_eq (by simp) (by simp) (by simp)

theorem takeBeat (h : s.LockClear) (b : BusWord) : (s.takeBeat b).LockClear := h.of_eq (by simp) (by simp) (by simp)

theorem completeAp (h : s.LockClear) (w : WordTxn) : (s.completeAp w).LockClear := h.of_eq (by simp) (by simp) (by simp)

/-! #### Removal of the head -/

theorem releaseSp (h : s.LockClear) : s.releaseSp.LockClear := by
  unfold State.releaseSp
  split
  · next d hacc =>
    split
    · exact offerPosted (h.full (by simp [SysPort.fullHeld, hacc])) d _
    · exact h
  · split
    · exact h
    · next ho => exact (h.spWakeCheck ho).autoResume _
  · exact h

theorem releaseAp (h : s.LockClear) : s.releaseAp.LockClear := h.of_eq (by simp) (by simp) (by simp)

theorem removeHead (h : s.LockClear) {e : Entry} {rest : List Entry} (hq : s.queue = e :: rest) (timedOut : Bool) :
    (s.removeHead e rest timedOut).LockClear := by
  have hrest : (s.setQueue rest).LockClear := h.setQueue fun x hx => ⟨x, hq ▸ List.mem_cons_of_mem _ hx, rfl⟩
  unfold State.removeHead
  dsimp only
  split
  · exact (hrest.deliver _).releaseSp.releaseAp
  · exact hrest.releaseSp.releaseAp

/-! #### Commits -/

theorem commit (h : s.LockClear) (bytes : List Byte) {r : Reply} (hr : r.state.LockClear) : (s.commit bytes r).LockClear := by
  unfold State.commit
  split
  · exact hr.of_eq rfl rfl rfl
  · exact h

theorem sliceEffects (h : s.LockClear) (k : Cs) (old new : ChipSel) : (s.sliceEffects k old new).LockClear := by
  unfold State.sliceEffects
  split
  · exact h.of_eq rfl rfl rfl
  · split <;> exact h.of_eq rfl rfl rfl

end State.LockClear

/-! ### Every command keeps the queue clear -/

section Replies

variable {s : State}

theorem chipselReply_keeps_lockClear (h : s.LockClear) (k : Cs) (c : ChipSel) : (chipselReply s k c).state.LockClear := by
  unfold chipselReply
  split
  · exact h
  · rw [Reply.done_state]
    exact ((h.setTables _).sliceEffects k _ c).conclude

theorem configResetReply_keeps_lockClear (h : s.LockClear) : (configResetReply s).state.LockClear := by
  unfold configResetReply
  split
  · exact h.of_eq rfl rfl rfl
  · exact h

theorem enterReply_keeps_lockClear (h : s.LockClear) : (enterReply s).state.LockClear := by
  unfold enterReply
  split
  · rw [Reply.done_state]
    exact (h.setRetention _).conclude
  all_goals exact h

theorem exitReply_keeps_lockClear (h : s.LockClear) : (exitReply s).state.LockClear := by
  unfold exitReply
  split
  · exact h
  · split
    · exact h
    · exact h.setRetention _
  · rw [Reply.done_state]
    exact (h.setRetention _).conclude
  · exact h

end Replies

/-- Every command keeps the queue clear: a posted write is queued with no lock held and no access past its ORDER hold, and a LOCKED read
goes past it, and takes its lock, with the queue clear of its chip select. -/
theorem exec_keeps_lockClear (c : Instr) {s s' : State} (h : s.LockClear) (hx : exec c s = .next s') : s'.LockClear := by
  have hunits (hc : Instr.keepsUnits c = true) := exec_keeps_units hc hx
  cases c <;> injection hx with hx <;> subst hx
  case spPresentation t =>
    split
    · exact (h.presentSp t).decide
    · exact h
  case spAccessEnd =>
    split
    · exact h
    · exact h.endAccess
  case lockNRelease =>
    split
    · exact h
    · exact h.endLock.decide
  case apPresentation t =>
    split
    · exact (h.presentAp t).decide
    · split
      · exact h
      · exact h.of_eq rfl rfl rfl
  case writeBeat d =>
    split
    · exact (h.takeBeat d).decide
    · exact h
  case spTransactionCompletion t =>
    split
    · next hacc =>
      split
      · exact ((h.setTxn none).completeSp hacc t).conclude
      · exact h
    · exact h
  case drainCompletion =>
    split
    · next w e rest _ hq =>
      split
      · exact ((h.setTxn none).removeHead hq w.timedOut).conclude
      · exact h
    · exact h
  case burstCompletion =>
    split
    · split
      · exact ((h.setTxn none).completeAp _).conclude
      · exact h
    · exact h
  case refreshCompletion =>
    split
    · exact ((h.setTxn none).setSlice _ _).conclude
    · exact h
  case selfEnterCompletion | selfExitCompletion =>
    split
    · exact (((h.setTxn none).setSlice _ _).setRetention _).conclude
    · exact h
  case intervalExpiry k =>
    dsimp only
    split
    · split
      · exact (h.setSlice k _).decide
      · exact ((h.setSlice k _).deliver _).decide
    · exact h
  case exitTimerExpiry k =>
    dsimp only
    split
    · exact (h.setSlice k _).conclude
    · exact h
  case frameStart | frameEnd | unknownOpcode | getSummary | readItem | writeRegion | writeProfile | writeBankwin
      | writeQueueWatermark | writeAlertEnables | popFault | peekFault | clearCauses => exact h.of_sameUnits (hunits rfl)
  case writeChipsel k p => exact h.commit _ (chipselReply_keeps_lockClear h k _)
  case enterRetention => exact h.commit _ (enterReply_keeps_lockClear h)
  case exitRetention => exact h.commit _ (exitReply_keeps_lockClear h)
  case configReset => exact h.commit _ (configResetReply_keeps_lockClear h)
  case pinReset => exact .of_unlocked rfl rfl
  all_goals (repeat' split) <;> exact h.of_eq (by simp) (by simp) (by simp)

/-- Settles O57: the chip selects kept clear are kept so by every command, and the idle step changes neither them nor the queue. -/
theorem stepKeepsTheLockedChipSelectUnqueued : Obligations.StepKeepsTheLockedChipSelectUnqueued := by
  intro s s' h hx
  rw [← State.lockClear_iff] at h ⊢
  unfold step at hx
  split at hx
  · cases hx
    exact h.of_eq (by simp) (by simp) (by simp)
  · next c rest _ =>
    have hrest : ({ s with pending := rest } : State).LockClear := h.of_eq rfl rfl rfl
    exact exec_keeps_lockClear c hrest hx

end Sys2Proof.Machine

/-! ## Ends and completions of System Port accesses (O20, O21, O22, O23) -/

namespace Sys2Proof.Machine

/-! ### Ends -/

/-- The withdrawal of a held access: its record, the end of a LOCKED write's lock, and the decision (R79, R81, R111). -/
theorem State.endAccess_of_hold {s : State} {r : HoldReason} {d : Descriptor} (h : s.sp.access = .hold r d) :
    s.endAccess =
      ((s.deliver (d.spOccurrence .hostWithdrawn)).setSp
        { s.sp with access := .idle, lock := if d.disposition = .lockedWrite then none else s.sp.lock }).decide := by
  rw [State.endAccess, h]
  dsimp only
  split <;> rfl

/-- Settles O20: the branches of `State.endAccess` and of the deferral, by the access state. -/
theorem accessEndFollowsTheAccessState : Obligations.AccessEndFollowsTheAccessState := by
  intro s hreset
  have hend : exec .spAccessEnd s = .next s.endAccess := congrArg _ (if_neg (by simp [hreset]))
  refine ⟨fun a w d hacc => ?_, fun r d hacc => ?_, fun d hacc => ?_, fun d hacc => ⟨?_, ?_, ?_⟩⟩
  · rw [hend, State.endAccess, hacc]
    rfl
  · rw [hend, State.endAccess_of_hold hacc]
    rfl
  · rw [hend, State.endAccess, hacc]
    rfl
  · show execDeferredPresentation s = _
    rw [execDeferredPresentation, if_neg (by simp [hreset]), hacc]
    rfl
  · simp [SysPort.waitN, hacc]
  · rw [hend, State.endAccess, hacc]
    rfl

/-- Settles O21: the command's one branch, for a lock that is held. -/
theorem lockReleaseEndsTheLock : Obligations.LockReleaseEndsTheLock := by
  intro s l hreset hlock
  exact congrArg _ (if_neg (by simp [hreset, hlock]))

/-! ### Completions -/

/-- The System Port takes the report of its transaction, and the event concludes (R70, R110). -/
theorem exec_spTransactionCompletion {s : State} {w : WordTxn} {withdrawn : Bool} {d : Descriptor} (hw : s.WordEnded w .sp)
    (hacc : s.sp.access = .channel withdrawn d) (t : SpTerminals) :
    exec (.spTransactionCompletion t) s = .next ((s.setTxn none).completeSp w withdrawn d t).conclude := by
  obtain ⟨-, -, -, hsp⟩ := id hw
  show execSpTransactionCompletion t s = _
  rw [execSpTransactionCompletion, s.endedWord_of_wordEnded w _ hw, hacc]
  dsimp only
  rw [if_pos hsp]

/-- Only a timeout changes anything, the fault unit (R75). -/
theorem State.noteTimeout_eq (s : State) (w : WordTxn) (d : Descriptor) :
    s.noteTimeout w d =
      { s with faults := if w.timedOut = true then s.faults.take (d.spOccurrence .deviceTimeout) else s.faults } := by
  unfold State.noteTimeout
  split <;> rfl

theorem abortWord_eq (d : Descriptor) : abortWord d = abortDriven d.dir := by
  unfold abortWord
  split <;> simp [abortDriven, *]

/-- The answer in the words of R73 to R75. -/
theorem answerOf_eq (w : WordTxn) (d : Descriptor) :
    answerOf w d =
      if w.timedOut = true then .answered .abort (abortDriven d.dir) d
      else
        .answered .data
          (match d.dir with
            | .read => some (laneWord d.lanes w.taken)
            | .write => none) d := by
  unfold answerOf
  rw [abortWord_eq]
  rfl

/-- An access that was not withdrawn leaves the lock of R77 and R79. -/
theorem lockAfter_answered (lock : Option Lock) (d : Descriptor) (timedOut lockN : Bool) :
    lockAfter lock false d timedOut lockN = lockAfterAnswer lock d timedOut lockN := by
  unfold lockAfter lockAfterAnswer
  cases d.disposition <;> simp

/-- A withdrawn access takes no lock, and a LOCKED write's ends (R79, R82). -/
theorem lockAfter_withdrawn (lock : Option Lock) (d : Descriptor) (timedOut lockN : Bool) :
    lockAfter lock true d timedOut lockN = if d.disposition = .lockedWrite then none else lock := by
  unfold lockAfter
  cases d.disposition <;> simp

/-- Settles O22: the answer and the lock of an access that was not withdrawn. -/
theorem systemCompletionAnswersTheAccess : Obligations.SystemCompletionAnswersTheAccess := by
  intro s w d t hw hacc
  rw [exec_spTransactionCompletion hw hacc, State.completeSp_of_not_withdrawn, State.noteTimeout_eq, answerOf_eq, lockAfter_answered]
  rfl

/-- Settles O23: the drop of a withdrawn access, with and without a deferred presentation that still stands. -/
theorem withdrawnCompletionAnswersNothing : Obligations.WithdrawnCompletionAnswersNothing := by
  intro s w d t hw hacc
  dsimp only
  rw [exec_spTransactionCompletion hw hacc, State.completeSp_of_withdrawn, State.noteTimeout_eq, SysPort.dropped, lockAfter_withdrawn]
  refine ⟨fun hdeferred hstands => ?_, fun hno => ?_⟩
  · rw [if_pos (by simp [hdeferred, hstands])]
    rfl
  · rw [if_neg (by obtain h | h := hno <;> simp [h])]
    rfl

end Sys2Proof.Machine

/-! ## Commands while RESET_N is asserted, and the inputs seen released (O5) -/

namespace Sys2Proof.Machine

section InReset

variable {s : State} (h : s.resetAsserted = true)

include h

theorem State.endedWord_of_reset : s.endedWord = none := by simp [State.endedWord, h]

theorem State.endedSlice_of_reset (op : SliceOp) : s.endedSlice op = none := by simp [State.endedSlice, h]

theorem State.wordEvent_of_reset (f : WordTxn → Option WordTxn) : s.wordEvent f = s := by simp [State.wordEvent, h]

/-- No frame reaches a commit point in reset (R178). -/
theorem State.commit_of_reset (bytes : List Byte) (r : Reply) : s.commit bytes r = s :=
  s.commit_of_not_committing bytes r (if_pos h)

/-- In reset only PIN_RESET and RESET_RELEASE act (R84, R101, R135, R178). -/
theorem exec_of_reset {c : Instr} (hpin : c ≠ .pinReset) (hrelease : ∀ l, c ≠ .resetRelease l) : exec c s = .next s := by
  have hword := State.endedWord_of_reset h
  have hslice := State.endedSlice_of_reset h
  cases c <;> refine congrArg Host.Outcome.next ?_
  case pinReset => exact absurd rfl hpin
  case resetRelease l => exact absurd rfl (hrelease l)
  case spPresentation t => exact if_neg (by simp [State.spReady, h])
  case spAccessEnd | deferredPresentation | spReleaseSeen | axReqRelease | closingPeriodEnd | frameEnd => exact if_pos h
  case lockNRelease => exact if_pos (by simp [h])
  case apPresentation t => exact (if_neg (by simp [State.apReady, h])).trans (if_pos h)
  case writeBeat | frameStart => exact if_neg (by simp [h])
  case phaseEnd | mrdyReady | readyLimitExceeded => exact State.wordEvent_of_reset h _
  case spTransactionCompletion | drainCompletion | burstWordEnd | burstCompletion => rw [hword]
  case refreshCompletion | selfEnterCompletion | selfExitCompletion => rw [hslice]
  case intervalExpiry | exitTimerExpiry => exact if_neg (by simp [h])
  case unknownOpcode =>
    split
    · exact State.commit_of_reset h _ _
    · rfl
  all_goals exact State.commit_of_reset h _ _

end InReset

/-- Settles O5: the two sightings, and every other command in reset by `exec_of_reset`. -/
theorem releasesAreSeenAfterReset : Obligations.ReleasesAreSeenAfterReset :=
  ⟨fun _ _ h => congrArg _ (if_pos h), fun _ h => congrArg _ (if_neg (by simp [h])), fun _ _ h => exec_of_reset h⟩

end Sys2Proof.Machine

/-! ## The ports follow the wake condition (O39) -/

namespace Sys2Proof.Machine

section Rewake

variable {s : State} {d : Descriptor} {tg : Target}

/-- A descriptor is held by the wake condition of its chip select (R68). -/
theorem State.descHeld_iff (ht : d.target = some tg) : s.descHeld d = true ↔ s.WakeCondition tg.cs := by
  rw [← State.wakeHolds_iff, State.descHeld, ht]

theorem State.rewakeSp_of_wake (h : s.sp.access = .hold .wake d) :
    s.rewakeSp = if s.descHeld d then s else s.setAccess (.hold .grant d) := by
  rw [State.rewakeSp, h]

theorem State.rewakeSp_of_grant (h : s.sp.access = .hold .grant d) :
    s.rewakeSp = if s.descHeld d then s.setAccess (.hold .wake d) else s := by
  rw [State.rewakeSp, h]

theorem State.rewakeSp_of_other (h : ∀ x, s.sp.access ≠ .hold .wake x ∧ s.sp.access ≠ .hold .grant x) : s.rewakeSp = s := by
  unfold State.rewakeSp
  split
  · next x hx => exact absurd hx (h x).1
  · next x hx => exact absurd hx (h x).2
  · rfl

theorem State.rewakeAp_of_wake (hp : s.ap.phase = .wake) (hd : s.ap.desc = some d) :
    s.rewakeAp = if s.descHeld d then s else s.setApPhase .grant := by
  rw [State.rewakeAp, hp, hd]

theorem State.rewakeAp_of_grant (hp : s.ap.phase = .grant) (hd : s.ap.desc = some d) :
    s.rewakeAp =
      if s.descHeld d then (s.setApPhase .wake).setChannel { s.channel with patience := 0 } else s := by
  rw [State.rewakeAp, hp, hd]

theorem State.rewakeAp_of_other (hw : s.ap.phase ≠ .wake) (hg : s.ap.phase ≠ .grant) : s.rewakeAp = s := by
  unfold State.rewakeAp
  split
  · next hp _ => exact absurd hp hw
  · next hp _ => exact absurd hp hg
  · rfl

end Rewake

/-- Settles O39: the two holds of each port by the wake condition, and the order of the event's end by definition. -/
theorem portsFollowTheWakeCondition : Obligations.PortsFollowTheWakeCondition := by
  intro s d tg ht
  dsimp only
  rw [← State.descHeld_iff ht]
  refine ⟨fun h => ?_, fun h => ?_, State.rewakeSp_of_other, fun hp hd => ?_, fun hp hd => ?_, State.rewakeAp_of_other, rfl, rfl⟩
  · rw [State.rewakeSp_of_wake h]
    exact ⟨fun hw => if_pos hw, fun hw => if_neg hw⟩
  · rw [State.rewakeSp_of_grant h]
    exact ⟨fun hw => if_pos hw, fun hw => if_neg hw⟩
  · rw [State.rewakeAp_of_wake hp hd]
    exact ⟨fun hw => if_pos hw, fun hw => if_neg hw⟩
  · rw [State.rewakeAp_of_grant hp hd]
    exact ⟨fun hw => if_pos hw, fun hw => if_neg hw⟩

end Sys2Proof.Machine

/-! ## The output terminals (O52) -/

namespace Sys2Proof.Machine

/-! ### The ports' answers -/

/-- WAIT_N is asserted in HOLD, in CHANNEL until the withdrawal, and again while a presentation is deferred (R71, R82). -/
theorem SysPort.waitN_iff (p : SysPort) :
    p.waitN = true ↔
      (∃ r d, p.access = .hold r d) ∨ (∃ d, p.access = .channel false d)
        ∨ ((∃ d, p.access = .channel true d) ∧ p.deferred = true) := by
  unfold SysPort.waitN
  cases p.access with
  | channel withdrawn d => cases withdrawn <;> simp
  | _ => simp

theorem SysPort.abortN_iff (p : SysPort) : p.abortN = true ↔ ∃ x d, p.access = .answered .abort x d := by
  unfold SysPort.abortN
  cases p.access with
  | answered a x d => cases a <;> simp
  | _ => simp

theorem SysPort.dOut_of_answered {p : SysPort} {a : Answer} {x : Option BusWord} {d : Descriptor} (h : p.access = .answered a x d) :
    p.dOut = x := by
  rw [SysPort.dOut, h]

theorem SysPort.dOut_of_not_answered {p : SysPort} (h : ∀ a x d, p.access ≠ .answered a x d) : p.dOut = none := by
  unfold SysPort.dOut
  split
  · next a x d hx => exact absurd hx (h a x d)
  · rfl

theorem AuxPort.axOut_of_beat {a : AuxPort} {w : BusWord} (h : a.beat = some w) : a.axOut = .beat w := by
  rw [AuxPort.axOut, h]

/-- Between beats AX_D is driven in a read burst only (R86, R95; log 28). -/
theorem AuxPort.axOut_of_no_beat {a : AuxPort} (h : a.beat = none) :
    a.axOut = if a.phase = .burst ∧ a.direction = some .read then .quiet else .released := by
  rw [AuxPort.axOut, h]

theorem AuxPort.direction_of_desc {a : AuxPort} {d : Descriptor} (h : a.desc = some d) : a.direction = some d.dir := by
  rw [AuxPort.direction, h]
  rfl

/-! ### The memory terminals -/

theorem Phase.strobed_iff (p : Phase) : p.strobed = true ↔ p = .strobe ∨ p = .readyWait := by
  cases p <;> simp [Phase.strobed]

/-- The chip select is asserted from setup to hold, and between the words of a burst (R125, R128). -/
theorem WordTxn.selected_iff (w : WordTxn) :
    w.selected = true ↔
      w.phase = .setup ∨ w.phase = .strobe ∨ w.phase = .readyWait ∨ w.phase = .hold
        ∨ (w.phase = .ended ∧ w.timedOut = false ∧ w.current + 1 < w.count) := by
  unfold WordTxn.selected WordTxn.lastWord
  cases w.phase <;> simp

theorem WordTxn.selected_of_strobed {w : WordTxn} (h : w.phase.strobed = true) : w.selected = true := by
  rw [WordTxn.selected_iff]
  obtain h | h := w.phase.strobed_iff.1 h <;> simp [h]

/-- A word that is not selected is in recovery, or was the last and has ended (R125, R128). -/
theorem WordTxn.not_selected {w : WordTxn}
    (h : w.phase = .recovery ∨ w.phase = .ended ∧ ¬ (w.phase = .ended ∧ w.timedOut = false ∧ w.current + 1 < w.count)) :
    ¬ w.selected = true := by
  rw [WordTxn.selected_iff]
  obtain hp | ⟨hp, hlast⟩ := h
  · simp [hp]
  · simpa [hp] using hlast

section Channels

variable {c : Channel} {w : WordTxn}

theorem Channel.terminals_of_free (h : c.txn = none) : c.terminals = c.idleTerminals := by
  rw [Channel.terminals, h]

/-- A selected word asserts its chip select and lanes, its strobe in the strobe and the ready wait, and drives a write's word (R125). -/
theorem Channel.terminals_of_selected (h : c.txn = some (.word w)) (hs : w.selected = true) :
    c.terminals =
      { c.idleTerminals with
        mcs := some w.cs, moe := w.phase.strobed && w.dir == .read, mwe := w.phase.strobed && w.dir == .write, mub := w.lanes.hasU
        mlb := w.lanes.hasL, md := w.mdOut } := by
  rw [Channel.terminals, h]
  exact if_pos hs

theorem Channel.terminals_of_not_selected (h : c.txn = some (.word w)) (hs : ¬ w.selected = true) : c.terminals = c.idleTerminals := by
  rw [Channel.terminals, h]
  exact if_neg hs

/-- Of the slices' transactions a refresh alone asserts its chip select, with MREF_N (R130, R131). -/
theorem Channel.terminals_of_slice {t : SliceTxn} (h : c.txn = some (.slice t)) :
    c.terminals = if t.op = .refresh then { c.idleTerminals with mcs := some t.cs, mref := true } else c.idleTerminals := by
  rw [Channel.terminals, h]
  cases ht : t.op <;> simp [ht]

/-- MA and MSR_N keep their levels in every phase (R131, R133). -/
theorem Channel.terminals_levels (c : Channel) : c.terminals.ma = c.ma ∧ c.terminals.msr = c.msr := by
  cases h : c.txn with
  | none =>
    rw [Channel.terminals_of_free h]
    exact ⟨rfl, rfl⟩
  | some x =>
    cases x with
    | word w =>
      by_cases hs : w.selected = true
      · rw [Channel.terminals_of_selected h hs]
        exact ⟨rfl, rfl⟩
      · rw [Channel.terminals_of_not_selected h hs]
        exact ⟨rfl, rfl⟩
    | slice t =>
      rw [Channel.terminals_of_slice h]
      split <;> exact ⟨rfl, rfl⟩

/-- A word asserts its strobe in the strobe and the ready wait, by its direction, and never MREF_N (R125, R126). -/
theorem Channel.strobes_of_word (h : c.txn = some (.word w)) :
    c.terminals.moe = (w.phase.strobed && w.dir == .read) ∧ c.terminals.mwe = (w.phase.strobed && w.dir == .write)
      ∧ c.terminals.mref = false := by
  by_cases hs : w.selected = true
  · rw [Channel.terminals_of_selected h hs]
    exact ⟨rfl, rfl, rfl⟩
  · have hno : w.phase.strobed = false := by
      rw [Bool.eq_false_iff]
      exact fun hstrobe => hs (WordTxn.selected_of_strobed hstrobe)
    rw [Channel.terminals_of_not_selected h hs, hno]
    exact ⟨rfl, rfl, rfl⟩

/-- Without a word on the channel no strobe is asserted, and MREF_N in a refresh only (R130, R133). -/
theorem Channel.strobes_of_no_word (h : ∀ w, c.txn ≠ some (.word w)) :
    c.terminals.moe = false ∧ c.terminals.mwe = false
      ∧ (c.terminals.mref = true ↔ ∃ t, c.txn = some (.slice t) ∧ t.op = .refresh) := by
  cases hc : c.txn with
  | none =>
    rw [Channel.terminals_of_free hc]
    exact ⟨rfl, rfl, iff_of_false nofun nofun⟩
  | some x =>
    cases x with
    | word w => exact absurd hc (h w)
    | slice t =>
      rw [Channel.terminals_of_slice hc]
      split <;> simp [Channel.idleTerminals, *]

theorem Channel.moe_iff (c : Channel) :
    c.terminals.moe = true ↔ ∃ w, c.txn = some (.word w) ∧ w.dir = .read ∧ (w.phase = .strobe ∨ w.phase = .readyWait) := by
  by_cases h : ∃ w, c.txn = some (.word w)
  · obtain ⟨w, hw⟩ := h
    obtain ⟨hmoe, -, -⟩ := Channel.strobes_of_word hw
    simp [hmoe, hw, Phase.strobed_iff, and_comm]
  · rw [not_exists] at h
    obtain ⟨hmoe, -, -⟩ := Channel.strobes_of_no_word h
    simp [hmoe, h]

theorem Channel.mwe_iff (c : Channel) :
    c.terminals.mwe = true ↔ ∃ w, c.txn = some (.word w) ∧ w.dir = .write ∧ (w.phase = .strobe ∨ w.phase = .readyWait) := by
  by_cases h : ∃ w, c.txn = some (.word w)
  · obtain ⟨w, hw⟩ := h
    obtain ⟨-, hmwe, -⟩ := Channel.strobes_of_word hw
    simp [hmwe, hw, Phase.strobed_iff, and_comm]
  · rw [not_exists] at h
    obtain ⟨-, hmwe, -⟩ := Channel.strobes_of_no_word h
    simp [hmwe, h]

theorem Channel.mref_iff (c : Channel) : c.terminals.mref = true ↔ ∃ t, c.txn = some (.slice t) ∧ t.op = .refresh := by
  by_cases h : ∃ w, c.txn = some (.word w)
  · obtain ⟨w, hw⟩ := h
    obtain ⟨-, -, hmref⟩ := Channel.strobes_of_word hw
    simp [hmref, hw]
  · rw [not_exists] at h
    obtain ⟨-, -, hmref⟩ := Channel.strobes_of_no_word h
    exact hmref

end Channels

/-! ### MSO -/

theorem State.mso_of_frame {s : State} {f : Frame} (hreset : s.resetAsserted = false) (hf : s.mp.frame = some f) :
    s.mso = some f.mso := by
  rw [State.mso, if_neg (by simp [hreset]), hf]
  rfl

/-- MSO is in high impedance with no frame and in reset (R171, R178; log 32). -/
theorem State.mso_eq_none {s : State} (h : s.resetAsserted = true ∨ s.mp.frame = none) : s.mso = none := by
  obtain h | h := h <;> simp [State.mso, h]

/-- Settles O52: the ports' answers, the memory terminals and MSO, each by its lemma above. -/
theorem outputTerminalsFollowTheState : Obligations.OutputTerminalsFollowTheState := by
  intro s
  dsimp only
  obtain ⟨hma, hmsr⟩ := s.channel.terminals_levels
  refine ⟨s.sp.waitN_iff, s.sp.abortN_iff, fun _ _ _ h => SysPort.dOut_of_answered h, SysPort.dOut_of_not_answered, beq_iff_eq,
    beq_iff_eq, beq_iff_eq, fun _ => AuxPort.axOut_of_beat, fun d hb hp hd hdir => ?_, fun d hb hp hd hdir => ?_, fun hb hp => ?_,
    hma, hmsr, s.channel.moe_iff, s.channel.mwe_iff, s.channel.mref_iff, fun hfree => ?_, fun w hw => ⟨fun hs => ?_, fun hs => ?_⟩,
    fun t ht => ?_, State.mso_eq_none, fun f hreset hf => ?_⟩
  · rw [AuxPort.axOut_of_no_beat hb, if_pos ⟨hp, (AuxPort.direction_of_desc hd).trans (congrArg _ hdir)⟩]
  · rw [AuxPort.axOut_of_no_beat hb, if_neg (by simp [AuxPort.direction_of_desc hd, hdir])]
  · rw [AuxPort.axOut_of_no_beat hb, if_neg (by simp [hp])]
  · rw [Channel.terminals_of_free hfree]
    exact ⟨rfl, rfl, rfl, rfl⟩
  · rw [Channel.terminals_of_selected hw (w.selected_iff.2 hs)]
    refine ⟨rfl, rfl, rfl, fun hdir => ?_, fun x hdir hx => ?_⟩
    · simp [WordTxn.mdOut, hdir]
    · simp only [WordTxn.mdOut, hdir, hx]
      rfl
  · rw [Channel.terminals_of_not_selected hw (WordTxn.not_selected hs)]
    exact ⟨rfl, rfl, rfl, rfl⟩
  · rw [Channel.terminals_of_slice ht]
    split <;> exact ⟨rfl, rfl, rfl, rfl⟩
  · rw [State.mso_of_frame hreset hf]
    refine ⟨fun hp => ?_, fun hp => ?_, fun r hp hr => ?_, fun x rest hp hd => ?_, fun hp => ?_⟩
    · rw [Frame.mso, hp]
    · obtain hp | hp := hp <;> rw [Frame.mso, hp]
    · rw [Frame.mso, hp, hr]
      cases r <;> rfl
    · rw [Frame.mso, hp, hd]
      rfl
    · rw [Frame.mso, hp]

end Sys2Proof.Machine

/-! ## The empty queue (O3) -/

namespace Sys2Proof.Machine

/-! ### The events that are due -/

/-- A word's event is due at its report, at the low sample past the ready limit, and when the count of another phase is 0 (log 2). -/
theorem WordTxn.due_iff (w : WordTxn) :
    w.due = true ↔
      w.phase = .ended ∨ (w.phase ≠ .readyWait ∧ w.left = 0)
        ∨ (w.phase = .readyWait ∧ w.sampleDue = true ∧ w.timing.limit ≤ w.readyCount) := by
  unfold WordTxn.due
  cases w.phase <;> simp

theorem Slice.due_iff (sl : Slice) : sl.due = true ↔ sl.interval = some 0 ∨ sl.exitTimer = some 0 := by
  simp [Slice.due]

/-- A frame's commit point is due when its command has not been performed and its bytes are all there (R173). -/
theorem Frame.commitDue_iff (f : Frame) :
    f.commitDue = true ↔ f.result = none ∧ ∃ op rest, f.received = op :: rest ∧ rest.length = 1 + payloadBytes op := by
  refine ⟨fun h => ?_, fun ⟨hr, op, rest, hb, hlen⟩ => (Frame.commitDue_cons hr hb).2 hlen⟩
  have hr : f.result = none := by
    rw [Frame.commitDue, Bool.and_eq_true, Option.isNone_iff_eq_none] at h
    obtain ⟨hnone, -⟩ := h
    exact hnone
  match hb : f.received with
  | [] => simp [Frame.commitDue_nil hb] at h
  | op :: rest => exact ⟨hr, op, rest, rfl, (Frame.commitDue_cons hr hb).1 h⟩

/-- Something is due in the channel's transaction, a slice, the CLOSING period or the frame (log 2). -/
theorem State.due_iff (s : State) :
    s.due = true ↔
      (∃ w, s.channel.txn = some (.word w) ∧ w.due = true) ∨ (∃ t, s.channel.txn = some (.slice t) ∧ t.left = 0)
        ∨ (∃ k : Cs, s.slices[k].due = true) ∨ s.ap.closeLeft = some 0 ∨ ∃ f, s.mp.frame = some f ∧ f.commitDue = true := by
  have htxn : s.channel.txn.any Txn.due = true ↔
      (∃ w, s.channel.txn = some (.word w) ∧ w.due = true) ∨ ∃ t, s.channel.txn = some (.slice t) ∧ t.left = 0 := by
    match s.channel.txn with
    | none => simp
    | some (.word w) => simp [Txn.due]
    | some (.slice t) => simp [Txn.due]
  have hslices : s.slices.toList.any Slice.due = true ↔ ∃ k : Cs, s.slices[k].due = true := by
    simp [Vector.any_eq_true, Fin.exists_iff]
  have hframe : s.mp.frame.any Frame.commitDue = true ↔ ∃ f, s.mp.frame = some f ∧ f.commitDue = true := Option.any_eq_true ..
  simp only [State.due, Bool.or_eq_true, htxn, hslices, hframe, beq_iff_eq, or_assoc]

/-! ### What one CK period changes -/

/-- A ready wait takes a low sample and has the next one due; the count of any other phase falls (R125, R126, log 4). -/
theorem WordTxn.period_eq (w : WordTxn) :
    w.period =
      if w.phase = .readyWait then
        { w with readyCount := if w.sampleDue = true then w.readyCount + 1 else w.readyCount, sampleDue := true }
      else { w with left := w.left - 1 } := by
  unfold WordTxn.period
  cases hp : w.phase <;> simp

theorem Frame.map_period_none (f : Option Frame) : f.map (·.period none) = f := by
  cases f <;> rfl

/-- One CK period, by what it makes of the transaction, the frame and the bytes on MSI. -/
theorem State.period_eq {s : State} {txn : Option Txn} {frame : Option Frame} {msi : List MsiByte}
    (htxn : s.channel.txn.map Txn.period = txn) (hframe : s.mp.frame.map (·.period (arriving s.msi)) = frame)
    (hmsi : MsiByte.advance s.msi = msi) :
    s.period =
      { s with
        channel := { s.channel with txn }
        slices := s.slices.map Slice.period
        ap := { s.ap with beat := none, closeLeft := s.ap.closeLeft.map (· - 1) }
        mp := { s.mp with frame }
        msi } := by
  subst htxn hframe hmsi
  rfl

theorem step_of_empty {s : State} (h : s.pending = []) : step s = .next s.idleStep := by
  rw [step, h]

/-- Settles O3: time stands while an event is due, and else each part moves as its lemma above says. -/
theorem emptyQueuePassesOnePeriod : Obligations.EmptyQueuePassesOnePeriod := by
  intro s hempty due
  have hdue : s.due = true ↔ due := by
    simp only [State.due_iff, WordTxn.due_iff, Slice.due_iff, Frame.commitDue_iff, due, ← exists_and_left]
    rfl
  rw [step_of_empty hempty, State.idleStep]
  refine ⟨fun h => congrArg _ (if_pos (hdue.2 h)), fun h => ?_⟩
  rw [if_neg (mt hdue.1 h)]
  refine congrArg _ (State.period_eq ?_ ?_ ?_)
  · match s.channel.txn with
    | none => rfl
    | some (.word w) => exact congrArg (some ∘ Txn.word) w.period_eq
    | some (.slice t) => rfl
  · match s.msi with
    | [] => exact Frame.map_period_none _
    | { wait := 0, byte := b } :: _ => rfl
    | { wait := n + 1, byte := b } :: _ => exact Frame.map_period_none _
  · match s.msi with
    | [] => rfl
    | { wait := 0, byte := b } :: _ => rfl
    | { wait := n + 1, byte := b } :: _ => rfl

end Sys2Proof.Machine

/-! ## Write beats and the release of AX_REQ (O26, O27) -/

namespace Sys2Proof.Machine

/-! ### Write beats -/

/-- A beat that the port takes is appended, and the Arbiter decides (R89, R92, R111). -/
theorem exec_writeBeat_of_takesBeat {s : State} (hreset : s.resetAsserted = false) (h : s.ap.takesBeat = true) (x : BusWord) :
    exec (.writeBeat x) s = .next (s.setAp { s.ap with buffer := s.ap.buffer ++ [x] }).decide := by
  refine congrArg _ ((if_pos (by simp [hreset, h])).trans ?_)
  rw [State.takeBeat, if_pos h]

/-- A beat that the port does not take is ignored (R89). -/
theorem exec_writeBeat_of_not_takesBeat {s : State} (h : ¬ s.ap.takesBeat = true) (x : BusWord) : exec (.writeBeat x) s = .next s :=
  congrArg _ (if_neg (by simp [h]))

/-- Settles O26: `AuxPort.takesBeat_iff` says which beats are taken. -/
theorem writeBeatIsTakenOrIgnored : Obligations.WriteBeatIsTakenOrIgnored := by
  refine ⟨fun s d n x hreset hdesc hburst => ?_, fun s x hreset hphase => ?_⟩
  · have htakes := s.ap.takesBeat_iff
    simp only [hdesc, Option.some.injEq, exists_eq_left', hburst, Option.getD_some] at htakes
    exact ⟨fun h => exec_writeBeat_of_takesBeat hreset (htakes.2 h) x,
      fun h => exec_writeBeat_of_not_takesBeat (mt htakes.1 h) x⟩
  · refine exec_writeBeat_of_not_takesBeat (fun h => ?_) x
    obtain ⟨hwaits, -⟩ := (AuxPort.takesBeat_iff _).1 h
    obtain hp | hp | ⟨c, hp⟩ := hphase <;> simp [hp] at hwaits

/-! ### AX_REQ -/

section Releases

variable {s : State}

theorem exec_axReqRelease (hreset : s.resetAsserted = false) : exec .axReqRelease s = .next s.releaseAxReq :=
  congrArg _ (if_neg (by simp [hreset]))

/-- A request not yet granted is withdrawn (R99). -/
theorem State.releaseAxReq_of_request (h : s.ap.phase = .order ∨ s.ap.phase = .wake ∨ s.ap.phase = .grant) :
    s.releaseAxReq = (s.setAp { s.ap with axReq := false }).withdrawAp := by
  unfold State.releaseAxReq
  obtain h | h | h := h <;> simp only [State.setAp_ap, h]

theorem State.releaseAxReq_of_burst (h : s.ap.phase = .burst) : s.releaseAxReq = s.setAp { s.ap with axReq := false } := by
  unfold State.releaseAxReq
  simp only [State.setAp_ap, h]

/-- CLOSING ends unless its one CK period already runs (R98, log 26). -/
theorem State.releaseAxReq_of_closing {c : ClosingAnswer} (h : s.ap.phase = .closing c) :
    s.releaseAxReq =
      if s.ap.closeLeft.isSome then s.setAp { s.ap with axReq := false } else s.setAp { s.ap.toIdle with axReq := false } := by
  unfold State.releaseAxReq
  simp only [State.setAp_ap, h]
  rfl

theorem State.releaseAxReq_of_idle (h : s.ap.phase = .idle) :
    s.releaseAxReq = s.setAp { s.ap with releaseSeen := true, axReq := false } := by
  unfold State.releaseAxReq
  simp only [State.setAp_ap, h]
  rfl

/-- The withdrawal records HOST_WITHDRAWN, empties the port and clears the patience count (R99, R108). -/
theorem State.withdrawAp_of_desc (s : State) {d : Descriptor} (h : s.ap.desc = some d) :
    s.withdrawAp =
      ((s.deliver (d.apOccurrence .hostWithdrawn)).setAp s.ap.toIdle).setChannel { s.channel with patience := 0 } := by
  unfold State.withdrawAp
  rw [h]
  rfl

/-- The one CK period of CLOSING has passed (R98). -/
theorem exec_closingPeriodEnd {c : ClosingAnswer} (hreset : s.resetAsserted = false) (hphase : s.ap.phase = .closing c)
    (hleft : s.ap.closeLeft = some 0) : exec .closingPeriodEnd s = .next (s.setAp s.ap.toIdle) := by
  refine congrArg _ ((if_neg (by simp [hreset])).trans ?_)
  rw [hphase, hleft]
  rfl

/-- AX_REQ asserted where no presentation is taken is noted only (R87, R100). -/
theorem exec_apPresentation_of_not_ready (hreset : s.resetAsserted = false)
    (h : s.ap.phase ≠ .idle ∨ s.ap.releaseSeen = false) (t : ApTerminals) :
    exec (.apPresentation t) s = .next (s.setAp { s.ap with axReq := true }) := by
  have hready : ¬ s.apReady = true := by
    obtain h | h := h <;> simp [State.apReady, h]
  exact congrArg _ ((if_neg hready).trans (if_neg (by simp [hreset])))

end Releases

/-- Settles O27: one lemma above per state of the port. -/
theorem requestReleaseFollowsThePortState : Obligations.RequestReleaseFollowsThePortState := by
  intro s hreset idle
  have hrelease := exec_axReqRelease hreset
  refine ⟨fun d hphase hdesc => ?_, fun hphase => ?_, fun c hphase hleft => ?_, fun c n hphase hleft => ?_, fun hphase => ?_,
    fun c hphase hleft => exec_closingPeriodEnd hreset hphase hleft, fun t h => exec_apPresentation_of_not_ready hreset h t⟩
  · rw [hrelease, State.releaseAxReq_of_request hphase]
    exact congrArg _ ((s.setAp { s.ap with axReq := false }).withdrawAp_of_desc hdesc)
  · rw [hrelease, State.releaseAxReq_of_burst hphase]
    rfl
  · rw [hrelease, State.releaseAxReq_of_closing hphase, if_neg (by simp [hleft])]
    rfl
  · rw [hrelease, State.releaseAxReq_of_closing hphase, if_pos (by simp [hleft])]
    rfl
  · rw [hrelease, State.releaseAxReq_of_idle hphase]
    rfl

end Sys2Proof.Machine

/-! ## Burst words and burst completions (O28, O29) -/

namespace Sys2Proof.Machine

/-! ### The beginning of a word -/

/-- A setup of some periods comes first (R125). -/
theorem WordTxn.beginWord_of_setup {w : WordTxn} (h : w.timing.setup ≠ 0) :
    w.beginWord = { w with readyCount := 0, phase := .setup, left := w.timing.setup, sampleDue := false } := if_neg h

/-- With no setup a READY word begins in its ready wait (R125, R126). -/
theorem WordTxn.beginWord_of_ready {w : WordTxn} (h : w.timing.setup = 0) (hm : w.timing.mode = .ready) :
    w.beginWord = { w with readyCount := 0, phase := .readyWait, left := 0, sampleDue := false } := by
  refine (if_pos h).trans ?_
  simp only [WordTxn.enterStrobe, hm]

/-- With no setup any other word begins in its strobe (R125). -/
theorem WordTxn.beginWord_of_strobe {w : WordTxn} (h : w.timing.setup = 0) (hm : w.timing.mode ≠ .ready) :
    w.beginWord = { w with readyCount := 0, phase := .strobe, left := w.timing.strobe, sampleDue := false } := by
  refine (if_pos h).trans ?_
  unfold WordTxn.enterStrobe
  split
  · next hr => exact absurd hr hm
  · rfl

/-- A word begins in its setup, its ready wait or its strobe, with a ready wait count of 0 and the rest of it kept (R125, R126). -/
theorem WordTxn.exists_beginWord_eq (w : WordTxn) :
    ∃ p n, w.beginWord = { w with phase := p, left := n, readyCount := 0, sampleDue := false }
      ∧ (w.timing.setup ≠ 0 → p = .setup ∧ n = w.timing.setup)
      ∧ (w.timing.setup = 0 → w.timing.mode = .ready → p = .readyWait)
      ∧ (w.timing.setup = 0 → w.timing.mode ≠ .ready → p = .strobe ∧ n = w.timing.strobe) := by
  by_cases hs : w.timing.setup = 0
  · by_cases hm : w.timing.mode = .ready
    · exact ⟨_, _, WordTxn.beginWord_of_ready hs hm, fun h => absurd hs h, fun _ _ => rfl, fun _ h => absurd hm h⟩
    · exact ⟨_, _, WordTxn.beginWord_of_strobe hs hm, fun h => absurd hs h, fun _ h => absurd h hm, fun _ _ => ⟨rfl, rfl⟩⟩
  · exact ⟨_, _, WordTxn.beginWord_of_setup hs, fun _ => ⟨rfl, rfl⟩, fun h => absurd h hs, fun h => absurd h hs⟩

/-! ### The two reports -/

theorem WordTxn.lastWord_iff (w : WordTxn) : w.lastWord = true ↔ w.timedOut = true ∨ w.count ≤ w.current + 1 := by
  simp [WordTxn.lastWord]

section Reports

variable {s : State} {w : WordTxn} (hw : s.WordEnded w .ap)

include hw

/-- A word other than the last is counted, its beat delivered, and the next word begins (R94, R128). -/
theorem exec_burstWordEnd (hmore : ¬ w.lastWord = true) :
    exec .burstWordEnd s = .next
      ((s.setAp { s.ap with performed := s.ap.performed + 1, beat := w.beat }).setChannel
        { s.channel with
          txn := some (.word { w with current := w.current + 1 }.beginWord)
          ma := { w with current := w.current + 1 }.beginWord.address }) := by
  obtain ⟨-, -, -, hap⟩ := id hw
  show execBurstWordEnd s = _
  rw [execBurstWordEnd, s.endedWord_of_wordEnded w _ hw]
  dsimp only
  rw [if_pos ⟨hap, Bool.eq_false_iff.2 hmore⟩]

/-- The channel becomes FREE, the port takes the report of its last word, and the event concludes (R96, R97, R110). -/
theorem exec_burstCompletion (hlast : w.lastWord = true) :
    exec .burstCompletion s = .next ((s.setTxn none).completeAp w).conclude := by
  obtain ⟨-, -, -, hap⟩ := id hw
  show execBurstCompletion s = _
  rw [execBurstCompletion, s.endedWord_of_wordEnded w _ hw]
  dsimp only
  rw [if_pos ⟨hap, hlast⟩]

end Reports

/-- The last word is counted and its beat delivered with END (R96). -/
theorem State.completeAp_of_ok (s : State) {w : WordTxn} (h : w.timedOut = false) :
    s.completeAp w = s.setAp ({ s.ap with performed := s.ap.performed + 1 }.close .done w.beat) :=
  if_neg (by simp [h])

/-- A timeout closes with ERR and the DEVICE_TIMEOUT of the failed word (R97). -/
theorem State.completeAp_of_timeout (s : State) {w : WordTxn} {d : Descriptor} (h : w.timedOut = true) (hd : s.ap.desc = some d) :
    s.completeAp w = (s.deliver (d.burstTimeout s.ap.performed)).setAp (s.ap.close .err none) := by
  refine (if_pos h).trans ?_
  rw [hd]
  rfl

/-- Settles O28: `exec_burstWordEnd`, and the next word by the lemmas of its beginning. -/
theorem burstWordEndBeginsTheNextWord : Obligations.BurstWordEndBeginsTheNextWord := by
  intro s w hw hok hmore
  have hlast : ¬ w.lastWord = true := by
    rw [WordTxn.lastWord_iff]
    simp [hok, hmore]
  obtain ⟨p, n, hbegin, hsetup, hready, hstrobe⟩ := WordTxn.exists_beginWord_eq { w with current := w.current + 1 }
  rw [exec_burstWordEnd hw hlast, hbegin]
  exact ⟨_, rfl, rfl, rfl, rfl, rfl, rfl, rfl, rfl, rfl, rfl, rfl, rfl, hok, hsetup, hready, hstrobe⟩

/-- Settles O29: `exec_burstCompletion` with the port's part for each outcome. -/
theorem burstCompletionClosesTheBurst : Obligations.BurstCompletionClosesTheBurst := by
  refine fun s w d hw hdesc => ⟨fun hok hlast => ?_, fun htimeout => ?_⟩
  · rw [exec_burstCompletion hw (w.lastWord_iff.2 (.inr hlast)), (s.setTxn none).completeAp_of_ok hok]
    rfl
  · rw [exec_burstCompletion hw (w.lastWord_iff.2 (.inl htimeout)), (s.setTxn none).completeAp_of_timeout htimeout hdesc]
    rfl

end Sys2Proof.Machine

/-! ## Ties within a rank (O34) -/

namespace Sys2Proof.Machine

/-! ### The order in which requests are listed -/

theorem Level.rank_injective {l l' : Level} (h : l.rank = l'.rank) : l = l' := by
  cases l <;> cases l' <;> cases h <;> rfl

/-- The place of a request's kind in the list of requests: the slices by chip select, the Auxiliary Port, the System Port, the head. -/
def Request.place : Request → Nat
  | .refresh k => k
  | .command k _ => k
  | .ap _ _ => 4
  | .sp _ _ => 5
  | .head _ => 6

/-- A slice's requests share its place. -/
theorem Request.place_of_slice {k : Cs} {r : Request} (h : r = .refresh k ∨ ∃ c, r = .command k c) : r.place = k := by
  obtain rfl | ⟨c, rfl⟩ := h <;> rfl

/-- A request is some slice's, or comes after every slice's. -/
theorem Request.slice_or_place_ge (r : Request) : (∃ k, r = .refresh k ∨ ∃ c, r = .command k c) ∨ 4 ≤ r.place := by
  cases r
  case refresh k => exact .inl ⟨k, .inl rfl⟩
  case command k c => exact .inl ⟨k, .inr ⟨c, rfl⟩⟩
  all_goals exact .inr (by simp [Request.place])

theorem State.sliceRequests_places (s : State) (k : Cs) : ((s.sliceRequests k).map (·.2.place)).Sublist [k.val] := by
  unfold State.sliceRequests
  cases s.refreshLevel k <;> cases s.retention.issued[k] <;> simp [Request.place]

theorem toList_map_places {α : Type} (x : Option α) {f : α → Level × Request} {n : Nat} (h : ∀ a, (f a).2.place = n) :
    ((x.map f).toList.map (·.2.place)).Sublist [n] := by
  cases x <;> simp [h]

/-- The requests are listed by place, at most one at each (R105 to R107). -/
theorem State.requests_pairwise_place (s : State) : s.requests.Pairwise (fun x y => x.2.place < y.2.place) := by
  have hslices := (((s.sliceRequests_places 0).append (s.sliceRequests_places 1)).append (s.sliceRequests_places 2)).append
    (s.sliceRequests_places 3)
  have hall : (s.requests.map (·.2.place)).Sublist ([0] ++ [1] ++ [2] ++ [3] ++ [4] ++ [5] ++ [6]) := by
    simp only [State.requests, List.map_append]
    refine .append (.append (.append hslices ?_) ?_) ?_
    all_goals exact toList_map_places _ fun _ => rfl
  exact List.pairwise_map.1 (List.Pairwise.sublist hall (by decide))

/-- Of the requests of the highest rank `best` takes the first listed. -/
theorem best_place_lt {l : List (Level × Request)} {x : Level × Request} (hl : l.Pairwise (fun x y => x.2.place < y.2.place))
    (h : best l = some x) : ∀ y ∈ l, y.1.rank = x.1.rank → y = x ∨ x.2.place < y.2.place := by
  induction l generalizing x with
  | nil => simp
  | cons a l ih =>
    obtain ⟨hfirst, hrest⟩ := List.pairwise_cons.1 hl
    intro y hy hrank
    unfold best at h
    split at h
    · next hb =>
      cases h
      rw [best_eq_none l hb, List.mem_singleton] at hy
      exact .inl hy
    · next z hb =>
      split at h
      · next hlt =>
        cases h
        obtain rfl | hy := List.mem_cons.1 hy
        · omega
        · exact ih hrest hb y hy hrank
      · cases h
        obtain rfl | hy := List.mem_cons.1 hy
        · exact .inl rfl
        · exact .inr (hfirst y hy)

/-! ### The request chosen -/

/-- Of the requests at the highest standing level a decision chooses the one listed first (R104 to R107). -/
theorem State.choose_of_first {s : State} {l : Level} {r : Request} (hmem : (l, r) ∈ s.requests)
    (hrank : ∀ x ∈ s.requests, l.rank ≤ x.1.rank) (hfirst : ∀ x, (l, x) ∈ s.requests → r.place ≤ x.place) : s.choose = some r := by
  unfold State.choose
  cases hb : best s.requests with
  | none => simp [best_eq_none _ hb] at hmem
  | some y =>
    obtain ⟨l', r'⟩ := y
    have hbest := best_mem _ _ hb
    obtain rfl : l = l' := Level.rank_injective (Nat.le_antisymm (hrank _ hbest) (best_rank_le _ _ hb _ hmem))
    obtain heq | hlt := best_place_lt s.requests_pairwise_place hb _ hmem rfl
    · cases heq
      rfl
    · exact absurd (hfirst r' hbest) (Nat.not_le.2 hlt)

/-- A slice's requests stand at SLICE-URGENT or SLICE-IDLE only (R104). -/
theorem State.level_of_slice {s : State} {l : Level} {k : Cs} {r : Request} (hr : r = .refresh k ∨ ∃ c, r = .command k c)
    (h : (l, r) ∈ s.requests) : l = .sliceUrgent ∨ l = .sliceIdle := by
  obtain rfl | ⟨c, rfl⟩ := hr
  · obtain ⟨-, ⟨-, hl⟩ | ⟨-, hl⟩⟩ := State.refreshLevel_eq_some.1 (State.mem_requests_refresh.1 h)
    · exact .inl hl
    · exact .inr hl
  · exact .inl (State.mem_requests_command.1 h).2.2

/-- At any other level every request comes after the slices. -/
theorem State.place_ge_of_level {s : State} {l : Level} {x : Request} (hl : l = .sp ∨ l = .ap) (h : (l, x) ∈ s.requests) :
    4 ≤ x.place := by
  obtain ⟨k, hk⟩ | hge := x.slice_or_place_ge
  · obtain rfl | rfl := hl <;> cases State.level_of_slice hk h <;> contradiction
  · exact hge

/-- Settles O34: in each case the request is the first listed at its level, or the only one. -/
theorem tiesGoToTheLowestSliceAndSpentPatience : Obligations.TiesGoToTheLowestSliceAndSpentPatience := by
  intro s ofSlice
  refine ⟨fun k l l' c hrefresh hcommand => ?_, fun l r hmem hrank => ⟨fun k hk hlower => ?_, fun d t hr => ?_,
    fun d t hr hnone => ?_, fun honly => ?_⟩⟩
  · have hsome := State.mem_requests_refresh.1 hrefresh
    have hnone := (State.mem_requests_command.1 hcommand).1
    exact absurd (hsome.symm.trans hnone) nofun
  all_goals refine State.choose_of_first hmem hrank fun x hx => ?_
  · rw [Request.place_of_slice hk]
    obtain ⟨j, hj⟩ | hge := x.slice_or_place_ge
    · rw [Request.place_of_slice hj]
      exact Nat.not_lt.1 fun hlt => hlower j x hlt hj hx
    · omega
  · subst hr
    have hl := State.eq_apLevel_iff.1 (State.mem_requests_ap.1 hmem).2
    exact State.place_ge_of_level (hl.imp And.right And.right) hx
  · subst hr
    have hl := (State.mem_requests_sp.1 hmem).2
    have hge := State.place_ge_of_level (.inl hl) hx
    cases x
    case ap d' t' => exact absurd hx (hnone d' t')
    case refresh k | command k c => exact absurd hge (Nat.not_le.2 k.isLt)
    all_goals simp [Request.place]
  · exact (congrArg Request.place (honly _ hx rfl)).ge

end Sys2Proof.Machine

/-! ## No request stands at a FREE channel (O56) -/

namespace Sys2Proof.Machine

/-! ### When no request stands -/

/-- Nothing stands when no slice owes a refresh or has a command issued, neither port requests and the head may not drain (R103). -/
theorem State.requests_eq_nil_iff (s : State) :
    s.requests = [] ↔
      (∀ k : Cs, ¬ s.slices[k].owes ∧ s.retention.issued[k] = none) ∧ s.apRequest = none ∧ s.spRequest = none
        ∧ ∀ e, s.queue.head? = some e → ¬ s.eligible e = true := by
  have hslice (k : Cs) : s.sliceRequests k = [] ↔ ¬ s.slices[k].owes ∧ s.retention.issued[k] = none := by
    rw [← State.refreshLevel_eq_none]
    unfold State.sliceRequests
    cases s.refreshLevel k <;> cases s.retention.issued[k] <;> simp
  have hhead : s.headRequest = none ↔ ∀ e, s.queue.head? = some e → ¬ s.eligible e = true := by
    simp only [Option.eq_none_iff_forall_ne_some, ne_eq, State.headRequest_eq_some, not_and]
  have hslices : (∀ k, s.sliceRequests k = []) ↔
      s.sliceRequests 0 = [] ∧ s.sliceRequests 1 = [] ∧ s.sliceRequests 2 = [] ∧ s.sliceRequests 3 = [] := by
    simp [Fin.forall_fin_succ]
  rw [← hhead, ← forall_congr' hslice, hslices]
  simp [State.requests, and_assoc]

theorem State.apRequest_eq_none_iff {s : State} :
    s.apRequest = none ↔ ∀ d t, ¬ (s.ap.phase = .grant ∧ s.ap.desc = some d ∧ d.target = some t ∧ s.sp.lock = none
      ∧ s.ap.dataComplete d = true) := by
  simp only [Option.eq_none_iff_forall_ne_some, ne_eq, Prod.forall, State.apRequest_eq_some]

theorem State.apRequest_eq_none {s : State} (h : s.ap.phase ≠ .grant) : s.apRequest = none :=
  Option.eq_none_iff_forall_ne_some.2 fun _ hx => h (State.apRequest_eq_some.1 hx).1

theorem State.spRequest_eq_none {s : State} (h : ∀ d, s.sp.access ≠ .hold .grant d) : s.spRequest = none :=
  Option.eq_none_iff_forall_ne_some.2 fun _ hx => h _ (State.spRequest_eq_some.1 hx).1

/-- The withdrawal leaves the port in IDLE (R99). -/
theorem State.withdrawAp_phase (s : State) : s.withdrawAp.ap.phase = .idle := rfl

theorem State.withdrawAp_txn (s : State) : s.withdrawAp.channel.txn = s.channel.txn := by
  unfold State.withdrawAp
  cases s.ap.desc <;> rfl

/-- The release of AX_REQ leaves the port out of GRANT (R98 to R101). -/
theorem State.releaseAxReq_phase (s : State) : s.releaseAxReq.ap.phase ≠ .grant := by
  cases hp : s.ap.phase
  case idle => simp [State.releaseAxReq_of_idle hp, hp]
  case order | wake | grant => simp [State.releaseAxReq_of_request, hp, State.withdrawAp_phase]
  case burst => simp [State.releaseAxReq_of_burst hp, hp]
  case closing =>
    rw [State.releaseAxReq_of_closing hp]
    split <;> simp [AuxPort.toIdle, hp]

theorem State.releaseAxReq_txn (s : State) : s.releaseAxReq.channel.txn = s.channel.txn := by
  cases hp : s.ap.phase
  case idle => rw [State.releaseAxReq_of_idle hp, State.setAp_channel]
  case order | wake | grant => simp [State.releaseAxReq_of_request, hp, State.withdrawAp_txn]
  case burst => rw [State.releaseAxReq_of_burst hp, State.setAp_channel]
  case closing =>
    rw [State.releaseAxReq_of_closing hp]
    split <;> rfl

/-! ### Changes that raise no request -/

/-- No request stands in `s'` whose requester had none in `s`, and the channel has not become FREE. -/
structure State.NoNewRequest (s s' : State) : Prop where
  free : s'.channel.txn = none → s.channel.txn = none
  owes : ∀ k : Cs, s'.slices[k].owes → s.slices[k].owes
  issued : s'.retention.issued = s.retention.issued
  ap : s.apRequest = none → s'.apRequest = none
  sp : s.spRequest = none → s'.spRequest = none
  queue : s'.queue = s.queue
  eligible : ∀ e, s'.eligible e = true → s.eligible e = true

theorem State.NoNewRequest.keeps {s s' : State} (hn : s.NoNewRequest s') (h : s.NoRequestAtFreeChannel) :
    s'.NoRequestAtFreeChannel := by
  intro hfree
  obtain ⟨hslices, hap, hsp, hhead⟩ := s.requests_eq_nil_iff.1 (h (hn.free hfree))
  refine s'.requests_eq_nil_iff.2 ⟨fun k => ⟨fun ho => (hslices k).1 (hn.owes k ho), ?_⟩, hn.ap hap, hn.sp hsp, fun e he hx => ?_⟩
  · rw [hn.issued]
    exact (hslices k).2
  · rw [hn.queue] at he
    exact hhead e he (hn.eligible e hx)

namespace State.NoNewRequest

variable {s s' : State}

/-- What the requests depend on: the chip-select descriptors, the queue, the System Port's access and lock, the Auxiliary Port's request
and beats, the slices, the Retention Controller, and whether the channel is FREE (R103). -/
theorem of_eq (hc : s'.tables.chipsels = s.tables.chipsels := by rfl) (hq : s'.queue = s.queue := by rfl)
    (ha : s'.sp.access = s.sp.access := by rfl) (hl : s'.sp.lock = s.sp.lock := by rfl) (hp : s'.ap.phase = s.ap.phase := by rfl)
    (hd : s'.ap.desc = s.ap.desc := by rfl) (hb : s'.ap.buffer = s.ap.buffer := by rfl)
    (ht : s'.channel.txn = s.channel.txn := by rfl) (hs : s'.slices = s.slices := by rfl)
    (hr : s'.retention = s.retention := by rfl) : s.NoNewRequest s' where
  free h := ht ▸ h
  owes _ h := hs ▸ h
  issued := congrArg _ hr
  ap := by simp only [State.apRequest_eq_none_iff, AuxPort.dataComplete, hp, hd, hb, hl, imp_self]
  sp := by simp only [State.spRequest, ha, imp_self]
  queue := hq
  eligible _ := by
    simp only [State.eligible, hc, hs, hr]
    exact id

theorem of_sameUnits (hu : s.SameUnits s') : s.NoNewRequest s' := by
  obtain ⟨hc, hq, hsp, hap, hch, hs, hr⟩ := hu
  exact .of_eq hc hq (by rw [hsp]) (by rw [hsp]) (by rw [hap]) (by rw [hap]) (by rw [hap]) (by rw [hch]) hs hr

/-- An access that is not in GRANT makes no request (R69). -/
theorem setAccess {a : SpAccess} (ha : ∀ d, a ≠ .hold .grant d) : s.NoNewRequest (s.setAccess a) :=
  ⟨id, fun _ => id, rfl, id, fun _ => State.spRequest_eq_none ha, rfl, fun _ => id⟩

/-- An Auxiliary Port that is not in GRANT makes no request (R92). -/
theorem setAp {x : AuxPort} (hx : x.phase ≠ .grant) : s.NoNewRequest (s.setAp x) :=
  ⟨id, fun _ => id, rfl, fun _ => State.apRequest_eq_none hx, id, rfl, fun _ => id⟩

theorem releaseAxReq (s : State) : s.NoNewRequest s.releaseAxReq where
  free h := s.releaseAxReq_txn ▸ h
  owes _ := by simp only [State.releaseAxReq_slices, imp_self]
  issued := by rw [State.releaseAxReq_retention]
  ap _ := State.apRequest_eq_none s.releaseAxReq_phase
  sp := by simp only [State.spRequest, State.releaseAxReq_sp, imp_self]
  queue := s.releaseAxReq_queue
  eligible _ := by
    simp only [State.eligible, State.releaseAxReq_tables, State.releaseAxReq_slices, State.releaseAxReq_retention]
    exact id

/-- One CK period moves counts, which no request depends on (R103). -/
theorem idleStep (s : State) : s.NoNewRequest s.idleStep := by
  unfold State.idleStep
  split
  · exact .of_eq
  · have hstate (k : Cs) : s.period.slices[k].state = s.slices[k].state := by simp [State.period, Slice.period]
    have hdebt (k : Cs) : s.period.slices[k].debt = s.slices[k].debt := by simp [State.period, Slice.period]
    exact
      { free := by simp [State.period]
        owes := fun k => by simp only [Slice.owes, hstate, hdebt, imp_self]
        issued := rfl
        ap := id
        sp := id
        queue := rfl
        eligible := fun e => by
          simp only [State.eligible_iff, hstate]
          exact id }

end State.NoNewRequest

/-! ### Operations that end in a decision -/

/-- A decision leaves a BUSY channel, or a FREE one at which nothing stands (R110, R111). -/
theorem State.decide_noRequest (s : State) : s.decide.NoRequestAtFreeChannel := by
  intro hfree
  cases htxn : s.channel.txn with
  | some x =>
    rw [s.decide_of_busy x htxn, htxn] at hfree
    cases hfree
  | none =>
    obtain ⟨hnone, heq⟩ | ⟨_, r, _, _, heq⟩ := State.decide_of_free htxn
    · rw [heq, hnone]
    · have hbusy := s.grant_busy r
      rw [← heq, hfree] at hbusy
      cases hbusy

theorem State.conclude_noRequest (s : State) : s.conclude.NoRequestAtFreeChannel := s.settle.decide_noRequest

namespace State.NoRequestAtFreeChannel

variable {s : State}

theorem of_busy {x : Txn} (hx : s.channel.txn = some x) : s.NoRequestAtFreeChannel := fun h => nomatch hx.symm.trans h

theorem wordEvent (h : s.NoRequestAtFreeChannel) (f : WordTxn → Option WordTxn) : (s.wordEvent f).NoRequestAtFreeChannel := by
  unfold State.wordEvent
  split
  · split
    · exact of_busy rfl
    · exact h
  · exact h

theorem endAccess (h : s.NoRequestAtFreeChannel) : s.endAccess.NoRequestAtFreeChannel := by
  unfold State.endAccess
  split
  · exact h
  · exact (State.NoNewRequest.setAccess (by simp)).keeps h
  · exact State.decide_noRequest _
  · exact (State.NoNewRequest.setAccess (by simp)).keeps h
  · exact State.NoNewRequest.keeps .of_eq h

theorem commit (h : s.NoRequestAtFreeChannel) (bytes : List Byte) {r : Reply} (hr : r.state.NoRequestAtFreeChannel) :
    (s.commit bytes r).NoRequestAtFreeChannel := by
  unfold State.commit
  split
  · exact State.NoNewRequest.keeps .of_eq hr
  · exact h

end State.NoRequestAtFreeChannel

/-! ### Every command leaves no request standing -/

section Replies

variable {s : State} (h : s.NoRequestAtFreeChannel)

include h

theorem chipselReply_noRequest (k : Cs) (c : ChipSel) : (chipselReply s k c).state.NoRequestAtFreeChannel := by
  unfold chipselReply
  split
  · exact h
  · rw [Reply.done_state]
    exact State.conclude_noRequest _

theorem enterReply_noRequest : (enterReply s).state.NoRequestAtFreeChannel := by
  unfold enterReply
  split
  · rw [Reply.done_state]
    exact State.conclude_noRequest _
  all_goals exact h

/-- DRAINING that has not begun keeps no entry from draining, so that its end lets none drain (R44, R158). -/
theorem exitReply_noRequest : (exitReply s).state.NoRequestAtFreeChannel := by
  unfold exitReply
  split
  · exact h
  · split
    · exact h
    · next hbegun =>
      have hnew : s.NoNewRequest (s.setRetention { s.retention with state := .running, participants := Vector.replicate 4 false }) :=
        { free := id
          owes := fun _ => id
          issued := rfl
          ap := id
          sp := id
          queue := rfl
          eligible := fun e he => by
            obtain ⟨hoff, hcls, -⟩ := State.eligible_iff.1 he
            exact State.eligible_iff.2 ⟨hoff, hcls, fun ⟨_, hbegan, _⟩ => hbegun hbegan⟩ }
      exact hnew.keeps h
  · rw [Reply.done_state]
    exact State.conclude_noRequest _
  · exact h

/-- At CONFIG_RESET nothing waits, and every slice goes to OFF (R176). -/
theorem configResetReply_noRequest : (configResetReply s).state.NoRequestAtFreeChannel := by
  unfold configResetReply
  split
  · next hquiet =>
    simp only [State.quiescent, Bool.and_eq_true, List.isEmpty_iff, Bool.not_eq_true'] at hquiet
    obtain ⟨⟨⟨⟨⟨hqueue, -⟩, hhold⟩, hwait⟩, -⟩, hissued⟩ := hquiet
    rw [Reply.done_state]
    refine fun _ => (State.requests_eq_nil_iff _).2 ⟨fun k => ⟨?_, ?_⟩, ?_, ?_, fun e he => ?_⟩
    · simp [Slice.owes, Slice.reset]
    · have hmem : s.retention.issued[k] ∈ s.retention.issued.toList := Vector.mem_toList_iff.2 (Vector.getElem_mem _)
      exact Option.isNone_iff_eq_none.1 (List.all_eq_true.1 hissued _ hmem)
    · refine State.apRequest_eq_none fun hp => ?_
      rw [State.setSlices_ap, State.setTables_ap] at hp
      simp [AuxPort.waiting, hp] at hwait
    · refine State.spRequest_eq_none fun d hd => ?_
      rw [State.setSlices_sp, State.setTables_sp] at hd
      simp [SysPort.inHold, hd] at hhold
    · simp [hqueue] at he
  · exact h

end Replies

/-- Every command leaves no request standing: it ends in a decision, leaves the channel BUSY, or raises no request. -/
theorem exec_leaves_noRequest (c : Instr) {s s' : State} (h : s.NoRequestAtFreeChannel) (hx : exec c s = .next s') :
    s'.NoRequestAtFreeChannel := by
  have hunits (hc : Instr.keepsUnits c = true) := exec_keeps_units hc hx
  cases c <;> injection hx with hx <;> subst hx
  case spPresentation | writeBeat =>
    split
    · exact State.decide_noRequest _
    · exact h
  case spAccessEnd =>
    split
    · exact h
    · exact h.endAccess
  case lockNRelease =>
    split
    · exact h
    · exact State.decide_noRequest _
  case deferredPresentation =>
    split
    · exact h
    · split
      · exact State.NoNewRequest.keeps .of_eq h
      · exact h
  case spReleaseSeen =>
    split
    · exact h
    · exact State.NoNewRequest.keeps .of_eq h
  case apPresentation =>
    split
    · exact State.decide_noRequest _
    · split
      · exact h
      · exact State.NoNewRequest.keeps .of_eq h
  case axReqRelease =>
    split
    · exact h
    · exact (State.NoNewRequest.releaseAxReq s).keeps h
  case closingPeriodEnd =>
    split
    · exact h
    · split
      · exact (State.NoNewRequest.setAp (by simp [AuxPort.toIdle])).keeps h
      · exact h
  case phaseEnd | mrdyReady | readyLimitExceeded => exact h.wordEvent _
  case spTransactionCompletion | drainCompletion | burstCompletion =>
    split
    · split
      · exact State.conclude_noRequest _
      · exact h
    · exact h
  case burstWordEnd =>
    split
    · split
      · exact .of_busy rfl
      · exact h
    · exact h
  case refreshCompletion | selfEnterCompletion | selfExitCompletion =>
    split
    · exact State.conclude_noRequest _
    · exact h
  case exitTimerExpiry =>
    dsimp only
    split
    · exact State.conclude_noRequest _
    · exact h
  case intervalExpiry =>
    dsimp only
    split
    · split <;> exact State.decide_noRequest _
    · exact h
  case frameStart | frameEnd | unknownOpcode | getSummary | readItem | writeRegion | writeProfile | writeBankwin
      | writeQueueWatermark | writeAlertEnables | popFault | peekFault | clearCauses =>
    exact (State.NoNewRequest.of_sameUnits (hunits rfl)).keeps h
  case writeChipsel k p => exact h.commit _ (chipselReply_noRequest h k _)
  case enterRetention => exact h.commit _ (enterReply_noRequest h)
  case exitRetention => exact h.commit _ (exitReply_noRequest h)
  case configReset => exact h.commit _ (configResetReply_noRequest h)
  case pinReset => exact State.NoNewRequest.keeps .of_eq State.reset_noRequest
  case resetRelease =>
    split
    · exact State.NoNewRequest.keeps .of_eq h
    · exact h

/-- Settles O56: the idle step raises no request, and every command leaves none standing. -/
theorem stepLeavesNoRequestAtAFreeChannel : Obligations.StepLeavesNoRequestAtAFreeChannel := by
  intro s s' h hx
  unfold step at hx
  split at hx
  · cases hx
    exact (State.NoNewRequest.idleStep s).keeps h
  · next c rest _ =>
    have hrest : ({ s with pending := rest } : State).NoRequestAtFreeChannel := State.NoNewRequest.keeps .of_eq h
    exact exec_leaves_noRequest c hrest hx

end Sys2Proof.Machine

/-! ## The phases of a word (O30, O31, O32) -/

namespace Sys2Proof.Machine

/-! ### One equation per branch of the word's own operations -/

section Branches

variable {w : WordTxn} {md : BusWord}

/-- The data the word keeps when its strobe ends: MD's word for a read (R125). -/
def WordTxn.takenFrom (w : WordTxn) (md : BusWord) : BusWord :=
  match w.dir with
  | .read => md
  | .write => w.taken

/-- READY samples from the first strobe period (R126). -/
theorem WordTxn.enterStrobe_of_ready (h : w.timing.mode = .ready) :
    w.enterStrobe = { w with phase := .readyWait, left := 0, sampleDue := false } := by
  simp only [WordTxn.enterStrobe, h]

/-- Under NONE and READY_AFTER_STROBE the strobe is counted first (R125, R126). -/
theorem WordTxn.enterStrobe_of_not_ready (h : w.timing.mode ≠ .ready) :
    w.enterStrobe = { w with phase := .strobe, left := w.timing.strobe, sampleDue := false } := by
  unfold WordTxn.enterStrobe
  split
  · next hr => exact absurd hr h
  · rfl

/-- Recovery follows the last word (R125, R128). -/
theorem WordTxn.afterHold_of_recovers (hl : w.lastWord = true) (hr : w.timing.recovery ≠ 0) :
    w.afterHold = { w with phase := .recovery, left := w.timing.recovery } :=
  if_pos (by simp [hl, hr])

/-- Without a recovery the word has ended (R125, R128). -/
theorem WordTxn.afterHold_of_ends (h : ¬ (w.lastWord = true ∧ w.timing.recovery ≠ 0)) :
    w.afterHold = { w with phase := .ended, left := 0 } :=
  if_neg (by simpa using h)

/-- A setup of 0 periods is passed over (R125). -/
theorem WordTxn.beginWord_of_no_setup (h : w.timing.setup = 0) : w.beginWord = { w with readyCount := 0 }.enterStrobe :=
  if_pos h

theorem WordTxn.endStrobe_of_hold (h : w.timing.hold ≠ 0) :
    w.endStrobe md = { w with phase := .hold, left := w.timing.hold, sampleDue := false, taken := w.takenFrom md } :=
  if_neg h

/-- A hold of 0 periods is passed over (R125). -/
theorem WordTxn.endStrobe_of_no_hold (h : w.timing.hold = 0) :
    w.endStrobe md = { w with sampleDue := false, taken := w.takenFrom md }.afterHold :=
  if_pos h

theorem WordTxn.endStrobe_of_recovers (h : w.timing.hold = 0) (hl : w.lastWord = true) (hr : w.timing.recovery ≠ 0) :
    w.endStrobe md =
      { w with phase := .recovery, left := w.timing.recovery, sampleDue := false, taken := w.takenFrom md } :=
  (WordTxn.endStrobe_of_no_hold h).trans (WordTxn.afterHold_of_recovers hl hr)

theorem WordTxn.endStrobe_of_ends (h : w.timing.hold = 0) (he : ¬ (w.lastWord = true ∧ w.timing.recovery ≠ 0)) :
    w.endStrobe md = { w with phase := .ended, left := 0, sampleDue := false, taken := w.takenFrom md } :=
  (WordTxn.endStrobe_of_no_hold h).trans (WordTxn.afterHold_of_ends he)

/-! #### The end of a phase -/

theorem WordTxn.phaseEnd_of_left (h : w.left ≠ 0) : w.phaseEnd md = none := if_pos h

theorem WordTxn.phaseEnd_of_setup (h : w.left = 0) (hp : w.phase = .setup) : w.phaseEnd md = some w.enterStrobe := by
  simp [WordTxn.phaseEnd, h, hp]

/-- READY_AFTER_STROBE begins its ready wait when the strobe has been counted (R126). -/
theorem WordTxn.phaseEnd_of_strobe_waits (h : w.left = 0) (hp : w.phase = .strobe) (hm : w.timing.mode = .readyAfterStrobe) :
    w.phaseEnd md = some { w with phase := .readyWait, sampleDue := false } := by
  simp [WordTxn.phaseEnd, h, hp, hm]

theorem WordTxn.phaseEnd_of_strobe (h : w.left = 0) (hp : w.phase = .strobe) (hm : w.timing.mode ≠ .readyAfterStrobe) :
    w.phaseEnd md = some (w.endStrobe md) := by
  unfold WordTxn.phaseEnd
  rw [if_neg (not_not.2 h), hp]
  dsimp only
  split
  · next hr => exact absurd hr hm
  · rfl

theorem WordTxn.phaseEnd_of_hold (h : w.left = 0) (hp : w.phase = .hold) : w.phaseEnd md = some w.afterHold := by
  simp [WordTxn.phaseEnd, h, hp]

theorem WordTxn.phaseEnd_of_recovery (h : w.left = 0) (hp : w.phase = .recovery) :
    w.phaseEnd md = some { w with phase := .ended } := by
  simp [WordTxn.phaseEnd, h, hp]

/-- An ended word has no phase to end. -/
theorem WordTxn.phaseEnd_of_ended (hp : w.phase = .ended) : w.phaseEnd md = none := by
  simp [WordTxn.phaseEnd, hp]

/-! #### The ends of a ready wait -/

theorem WordTxn.ready_of_wait (hp : w.phase = .readyWait) (hd : w.sampleDue = true) : w.ready md = some (w.endStrobe md) :=
  if_pos ⟨hp, hd⟩

/-- The word after the low sample past the limit, its strobe still to end (R127). -/
def WordTxn.expired (w : WordTxn) : WordTxn := { w with readyCount := w.readyCount + 1, timedOut := true }

theorem WordTxn.exceed_of_wait (hp : w.phase = .readyWait) (hd : w.sampleDue = true) (hc : w.timing.limit ≤ w.readyCount) :
    w.exceed = some (w.expired.endStrobe w.taken) :=
  if_pos ⟨hp, hd, hc⟩

/-- A word that timed out is its transaction's last (R129). -/
theorem WordTxn.expired_lastWord (w : WordTxn) : w.expired.lastWord = true := w.expired.lastWord_iff.2 (.inl rfl)

/-- A timeout takes nothing from MD (R127). -/
theorem WordTxn.expired_takenFrom (w : WordTxn) : w.expired.takenFrom w.taken = w.taken := by
  unfold WordTxn.takenFrom
  split <;> rfl

end Branches

/-! ### The three commands -/

/-- An event of the word puts the moved word on the channel and changes nothing else. -/
theorem State.wordEvent_of_some {s : State} {w x : WordTxn} {f : WordTxn → Option WordTxn} (hs : s.resetAsserted = false)
    (hw : s.channel.txn = some (.word w)) (hf : f w = some x) :
    s.wordEvent f = { s with channel := { s.channel with txn := some (.word x) } } := by
  show s.wordEvent f = s.setTxn (some (.word x))
  rw [State.wordEvent, hs, hw]
  dsimp only
  rw [hf]

/-- Settles O30: `phaseEnd`'s equation for each phase, then that of the phase that comes next. -/
theorem phaseEndMovesTheWordOn : Obligations.PhaseEndMovesTheWordOn := by
  intro s w md hs hw h0
  have gives {x : WordTxn} (h : w.phaseEnd md = some x) :
      exec (.phaseEnd md) s = .next { s with channel := { s.channel with txn := some (.word x) } } :=
    congrArg Host.Outcome.next (State.wordEvent_of_some hs hw h)
  refine ⟨fun hp hm => gives ?_, fun hp hm => gives ?_, fun hp hm => gives ?_, fun hp hm hh => gives ?_,
    fun hp hm hh hl hr => gives ?_, fun hp hm hh he => gives ?_, fun hp hl hr => gives ?_, fun hp he => gives ?_,
    fun hp => gives ?_⟩
  · rw [WordTxn.phaseEnd_of_setup h0 hp, WordTxn.enterStrobe_of_ready hm, h0]
  · rw [WordTxn.phaseEnd_of_setup h0 hp, WordTxn.enterStrobe_of_not_ready hm]
  · exact WordTxn.phaseEnd_of_strobe_waits h0 hp hm
  · rw [WordTxn.phaseEnd_of_strobe h0 hp hm, WordTxn.endStrobe_of_hold hh]
    rfl
  · rw [WordTxn.phaseEnd_of_strobe h0 hp hm, WordTxn.endStrobe_of_recovers hh (w.lastWord_iff.2 hl) hr]
    rfl
  · rw [← w.lastWord_iff] at he
    rw [WordTxn.phaseEnd_of_strobe h0 hp hm, WordTxn.endStrobe_of_ends hh he, h0]
    rfl
  · rw [WordTxn.phaseEnd_of_hold h0 hp, WordTxn.afterHold_of_recovers (w.lastWord_iff.2 hl) hr]
  · rw [← w.lastWord_iff] at he
    rw [WordTxn.phaseEnd_of_hold h0 hp, WordTxn.afterHold_of_ends he, h0]
  · exact WordTxn.phaseEnd_of_recovery h0 hp

/-- Settles O31: both ends of the wait end the strobe, and a word that timed out is its transaction's last. -/
theorem readyWaitEndsHighOrAtTheLimit : Obligations.ReadyWaitEndsHighOrAtTheLimit := by
  intro s w md hs hw hp hd
  have high {x : WordTxn} (h : w.endStrobe md = x) :
      exec (.mrdyReady md) s = .next { s with channel := { s.channel with txn := some (.word x) } } :=
    congrArg Host.Outcome.next (State.wordEvent_of_some hs hw ((WordTxn.ready_of_wait hp hd).trans (congrArg some h)))
  have limit {x : WordTxn} (hc : w.timing.limit ≤ w.readyCount) (h : w.expired.endStrobe w.taken = x) :
      exec .readyLimitExceeded s = .next { s with channel := { s.channel with txn := some (.word x) } } :=
    congrArg Host.Outcome.next (State.wordEvent_of_some hs hw ((WordTxn.exceed_of_wait hp hd hc).trans (congrArg some h)))
  refine ⟨fun hh => ⟨high (WordTxn.endStrobe_of_hold hh), fun hc => limit hc ?_⟩,
    fun hh hr hl => high (WordTxn.endStrobe_of_recovers hh (w.lastWord_iff.2 hl) hr),
    fun hh he => high (WordTxn.endStrobe_of_ends hh ?_), fun hh hr hc => limit hc ?_, fun hh hr hc => limit hc ?_⟩
  · rw [WordTxn.endStrobe_of_hold (w := w.expired) hh, w.expired_takenFrom]
    rfl
  · rw [w.lastWord_iff]
    rintro ⟨hl, hr⟩
    obtain hr' | ⟨htime, hmore⟩ := he
    · exact hr hr'
    · simp [htime, Nat.not_le.2 hmore] at hl
  · rw [WordTxn.endStrobe_of_recovers (w := w.expired) hh w.expired_lastWord hr, w.expired_takenFrom]
    rfl
  · rw [WordTxn.endStrobe_of_ends (w := w.expired) hh fun h => h.2 hr, w.expired_takenFrom]
    rfl

/-! ### The length of a word -/

/-- The word runs to its end in `n` CK periods, passing at most `m` ends of phases on its way. -/
def WordTxn.Lasts (w : WordTxn) (md : BusWord) (n m : Nat) : Prop :=
  ∀ fuel, n + m < fuel → w.periodsToEnd md fuel = some n

namespace WordTxn.Lasts

variable {w : WordTxn} {md : BusWord} {n m : Nat}

theorem mono {m' : Nat} (h : w.Lasts md n m) (hm : m ≤ m') : w.Lasts md n m' := fun fuel hf => h fuel (by omega)

theorem of_ended (hp : w.phase = .ended) : w.Lasts md 0 0
  | 0, hf => absurd hf (Nat.not_lt_zero _)
  | _ + 1, _ => if_pos hp

/-- The end of a phase takes no time. -/
theorem of_phaseEnd {x : WordTxn} (he : w.phaseEnd md = some x) (h : x.Lasts md n m) : w.Lasts md n (m + 1)
  | 0, hf => absurd hf (Nat.not_lt_zero _)
  | fuel + 1, hf => by
    have hp : w.phase ≠ .ended := fun hp => by simp [WordTxn.phaseEnd_of_ended hp] at he
    rw [WordTxn.periodsToEnd, if_neg hp, he]
    exact h fuel (by omega)

/-- While the count of the phase has not run out, a CK period passes. -/
theorem of_period (hp : w.phase ≠ .ended) (hl : w.left ≠ 0) (h : w.period.Lasts md n m) : w.Lasts md (n + 1) m
  | 0, hf => absurd hf (Nat.not_lt_zero _)
  | fuel + 1, hf => by
    rw [WordTxn.periodsToEnd, if_neg hp, WordTxn.phaseEnd_of_left hl]
    dsimp only
    rw [h fuel (by omega)]
    rfl

/-- A counted phase takes the periods left in it, then goes on as from a count of 0 (R125). -/
theorem of_count {p : Phase} (hp : p ≠ .ended) (hr : p ≠ .readyWait) (h : { w with phase := p, left := 0 }.Lasts md n m)
    (k : Nat) : { w with phase := p, left := k }.Lasts md (k + n) m := by
  induction k with
  | zero => rwa [Nat.zero_add]
  | succ k ih =>
    have hperiod : { w with phase := p, left := k + 1 }.period = { w with phase := p, left := k } := by
      unfold WordTxn.period
      split
      · next hwait => exact absurd hwait hr
      · rfl
    rw [Nat.add_right_comm]
    refine of_period hp (Nat.succ_ne_zero k) ?_
    rwa [hperiod]

/-! #### From each phase on -/

theorem afterHold (hl : w.lastWord = true) : w.afterHold.Lasts md w.timing.recovery 1 := by
  by_cases hr : w.timing.recovery = 0
  · rw [WordTxn.afterHold_of_ends fun h => h.2 hr, hr]
    exact (of_ended rfl).mono (Nat.zero_le 1)
  · rw [WordTxn.afterHold_of_recovers hl hr]
    exact of_count (p := .recovery) (by decide) (by decide)
      (of_phaseEnd (WordTxn.phaseEnd_of_recovery rfl rfl) (of_ended rfl)) _

theorem endStrobe (hl : w.lastWord = true) : (w.endStrobe md).Lasts md (w.timing.hold + w.timing.recovery) 2 := by
  by_cases hh : w.timing.hold = 0
  · rw [WordTxn.endStrobe_of_no_hold hh, hh, Nat.zero_add]
    exact (afterHold (w := { w with sampleDue := false, taken := w.takenFrom md }) hl).mono (by decide)
  · rw [WordTxn.endStrobe_of_hold hh]
    exact of_count (p := .hold) (w := { w with sampleDue := false, taken := w.takenFrom md }) (by decide) (by decide)
      (of_phaseEnd (WordTxn.phaseEnd_of_hold rfl rfl) (afterHold hl)) _

theorem enterStrobe (hm : w.timing.mode = .none) (hl : w.lastWord = true) :
    w.enterStrobe.Lasts md (w.timing.strobe + (w.timing.hold + w.timing.recovery)) 3 := by
  rw [WordTxn.enterStrobe_of_not_ready (by simp [hm])]
  exact of_count (p := .strobe) (w := { w with sampleDue := false }) (by decide) (by decide)
    (of_phaseEnd (WordTxn.phaseEnd_of_strobe rfl rfl (by simp [hm])) (endStrobe hl)) _

theorem beginWord (hm : w.timing.mode = .none) (hl : w.lastWord = true) :
    w.beginWord.Lasts md (w.timing.setup + (w.timing.strobe + (w.timing.hold + w.timing.recovery))) 4 := by
  by_cases hs : w.timing.setup = 0
  · rw [WordTxn.beginWord_of_no_setup hs, hs, Nat.zero_add]
    exact (enterStrobe (w := { w with readyCount := 0 }) hm hl).mono (by decide)
  · rw [WordTxn.beginWord_of_setup hs]
    exact of_count (p := .setup) (w := { w with readyCount := 0, sampleDue := false }) (by decide) (by decide)
      (of_phaseEnd (WordTxn.phaseEnd_of_setup rfl rfl) (enterStrobe hm hl)) _

end WordTxn.Lasts

/-- Settles O32: the phases' lengths add up from the last phase back to the first. -/
theorem wordLengthIsTheSumOfItsPhases : Obligations.WordLengthIsTheSumOfItsPhases := by
  intro w md fuel hm hl hf
  rw [WordTxn.Lasts.beginWord hm (w.lastWord_iff.2 (.inr hl)) fuel (by omega)]
  simp only [Nat.add_assoc]

end Sys2Proof.Machine

/-! ## Writing a chip-select descriptor (O46) -/

namespace Sys2Proof.Machine

/-! ### What each check tests -/

section Checks

variable {s : State} {k : Cs} {c old : ChipSel}

theorem ChipSel.inRange_iff :
    c.inRange = true ↔ 64 ≤ c.interval ∧ 4 ≤ c.cycle ∧ 1 ≤ c.threshold ∧ 16 ≤ c.exitTime := by
  simp [ChipSel.inRange, and_assoc]

theorem State.fullHeldFor_iff :
    s.fullHeldFor k = true ↔ ∃ d t, s.sp.access = .hold .full d ∧ d.target = some t ∧ t.cs = k := by
  unfold State.fullHeldFor
  split
  · next d hd => simp [hd]
  · next hno => simpa using fun d hd => absurd hd (hno d)

theorem Channel.wordFor_iff {ch : Channel} : ch.wordFor k = true ↔ ∃ w, ch.txn = some (.word w) ∧ w.cs = k := by
  unfold Channel.wordFor
  split
  · next w hw => simp [hw]
  · next hno => simpa using fun w hw => absurd hw (hno w)

/-- The states that refuse a class change (R120). -/
theorem State.classChangeRefused_iff :
    s.classChangeRefused k = true ↔
      (∃ e ∈ s.queue, e.cs = k) ∨ (∃ d t, s.sp.access = .hold .full d ∧ d.target = some t ∧ t.cs = k)
        ∨ (∃ x, s.channel.txn = some x ∧ x.cs = k) ∨ s.retention.state ≠ .running ∨ s.retention.issued[k] ≠ none := by
  simp [State.classChangeRefused, s.fullHeldFor_iff, or_assoc, Option.isSome_iff_ne_none]

/-- The states that refuse an enable or a disable (R122). -/
theorem State.enableChangeRefused_iff {old new : Bool} :
    s.enableChangeRefused k old new = true ↔
      (old = false ∧ new = true
          ∧ (s.retention.state ≠ .running ∨ s.retention.issued[k] ≠ none ∨ ∃ w, s.channel.txn = some (.word w) ∧ w.cs = k))
        ∨ (old = true ∧ new = false ∧ (s.slices[k].state = .self ∨ s.slices[k].state = .waking)) := by
  match old, new with
  | false, true => simp [State.enableChangeRefused, Channel.wordFor_iff, or_assoc, Option.isSome_iff_ne_none]
  | true, false => simp [State.enableChangeRefused]
  | false, false | true, true => simp [State.enableChangeRefused]

/-- Checks 1 and 2 of R119 pass: every field is in its range, and only a DRAM chip select has refresh enabled. -/
def ChipSel.Fits (c : ChipSel) : Prop := c.inRange = true ∧ (c.enable = true → c.cls = .dram)

/-- Check 3 or 4 of R119 fails: the state refuses the change of class (R120) or of refresh enable (R122). -/
def State.RefusesChange (s : State) (k : Cs) (c : ChipSel) : Prop :=
  (c.cls ≠ s.tables.chipsels[k].cls ∧ s.classChangeRefused k = true)
    ∨ s.enableChangeRefused k s.tables.chipsels[k].enable c.enable = true

theorem State.chipselCheck_of_not_fits (h : ¬ c.Fits) : s.chipselCheck k c = some .badValue := by
  unfold State.chipselCheck
  by_cases hr : c.inRange = true
  · have he : (c.enable && c.cls != .dram) = true := by simpa [ChipSel.Fits, hr] using h
    simp [hr, he]
  · simp [hr]

/-- Checks 1 and 2 passed, the state alone decides. -/
theorem State.chipselCheck_of_fits [Decidable (s.RefusesChange k c)] (h : c.Fits) :
    s.chipselCheck k c = if s.RefusesChange k c then some .wrongState else none := by
  obtain ⟨hr, he⟩ := h
  have he' : (c.enable && c.cls != .dram) = false := by simpa using he
  rw [State.chipselCheck, hr, he', if_neg (by decide), if_neg (by decide)]
  by_cases hcls : (c.cls != s.tables.chipsels[k].cls && s.classChangeRefused k) = true
  · rw [if_pos hcls, if_pos (.inl (by simpa using hcls))]
  · have hen : s.RefusesChange k c ↔ s.enableChangeRefused k s.tables.chipsels[k].enable c.enable = true :=
      or_iff_right (by simpa using hcls)
    rw [if_neg hcls]
    exact (if_congr hen rfl rfl).symm

/-! ### The slice effects, by the change -/

theorem State.sliceEffects_of_class_left (h : old.cls = .dram ∧ c.cls ≠ .dram) :
    s.sliceEffects k old c = (s.setSlice k s.slices[k].toOff).depart k :=
  if_pos h

variable (hcls : ¬ (old.cls = .dram ∧ c.cls ≠ .dram))

include hcls

theorem State.sliceEffects_of_enable (ho : old.enable = false) (hc : c.enable = true) :
    s.sliceEffects k old c = s.setSlice k s.slices[k].toWarmup := by
  rw [State.sliceEffects, if_neg hcls, ho, hc]

theorem State.sliceEffects_of_disable (ho : old.enable = true) (hc : c.enable = false) :
    s.sliceEffects k old c = (s.setSlice k s.slices[k].toOff).depart k := by
  rw [State.sliceEffects, if_neg hcls, ho, hc]

theorem State.sliceEffects_of_enable_kept (h : old.enable = c.enable) : s.sliceEffects k old c = s := by
  rw [State.sliceEffects, if_neg hcls, h]
  cases c.enable <;> rfl

end Checks

/-! ### The command -/

section Writes

variable {s : State} {f : Frame} {k : Cs} {p : Payload}
  (h : s.AtCommit f ([0x21, BitVec.ofNat 8 (0x30 + k)] ++ p.toList))

include h

theorem exec_writeChipsel_refused {r : Result} (hr : s.chipselCheck k (chipSelOf p) = some r) :
    exec (.writeChipsel k p) s = .next (s.withResult f r []) := by
  show execWriteChipsel k p s = _
  rw [execWriteChipsel, chipselReply, hr, itemArg_eq 3 (k.isLt.trans (by decide))]
  exact commit_refuse h _ _

/-- A change that is taken: the descriptor is written, then its slice effects, then the event concludes. -/
theorem exec_writeChipsel_taken (hr : s.chipselCheck k (chipSelOf p) = none) {x : State}
    (hx : (s.setTables { s.tables with chipsels := s.tables.chipsels.set k (chipSelOf p) }).sliceEffects k
      s.tables.chipsels[k] (chipSelOf p) = x) (hmp : x.mp = s.mp) :
    exec (.writeChipsel k p) s = .next (x.conclude.withResult f .done []) := by
  show execWriteChipsel k p s = _
  rw [execWriteChipsel, chipselReply, hr, itemArg_eq 3 (k.isLt.trans (by decide))]
  dsimp only
  rw [hx]
  exact commit_done h (x.conclude_mp.trans hmp)

end Writes

/-- Settles O46: the four checks decide the result, and a change that is taken has the slice effects of its case. -/
theorem chipSelectWriteIsCheckedAndTaken : Obligations.ChipSelectWriteIsCheckedAndTaken := by
  classical
  intro s f k p h
  simp only [← ChipSel.inRange_iff, ← State.classChangeRefused_iff, ← State.enableChangeRefused_iff]
  refine ⟨fun hbad => exec_writeChipsel_refused h (State.chipselCheck_of_not_fits hbad),
    fun hfit hno => exec_writeChipsel_refused h ((State.chipselCheck_of_fits hfit).trans (if_pos hno)),
    fun hfit hcls hen => ?_⟩
  have hnone := (State.chipselCheck_of_fits (s := s) (k := k) hfit).trans (if_neg (not_or.2 ⟨hcls, hen⟩))
  exact ⟨fun hleft => exec_writeChipsel_taken h hnone (State.sliceEffects_of_class_left hleft) rfl,
    fun hkeep => ⟨fun ho hc => exec_writeChipsel_taken h hnone (State.sliceEffects_of_enable hkeep ho hc) rfl,
      fun ho hc => exec_writeChipsel_taken h hnone (State.sliceEffects_of_disable hkeep ho hc) rfl,
      fun he => exec_writeChipsel_taken h hnone (State.sliceEffects_of_enable_kept hkeep he) rfl⟩⟩

end Sys2Proof.Machine

/-! ## The refresh slices' completions and timers (O36, O37, O38) -/

namespace Sys2Proof.Machine

/-! ### What each completion does to a slice, by its state -/

section Slices

variable {sl : Slice} {c : ChipSel}

theorem Slice.refreshed_of_active (h : sl.state = .active) : sl.refreshed c = { sl with debt := sl.debt - 1 } := by
  rw [Slice.refreshed, h]

theorem Slice.refreshed_of_warmup (h : sl.state = .warmup) (hd : 2 ≤ sl.debt) : sl.refreshed c = { sl with debt := sl.debt - 1 } := by
  rw [Slice.refreshed, h]
  exact if_neg (Nat.not_le.2 hd)

/-- The last warm-up refresh enters ACTIVE (R140). -/
theorem Slice.refreshed_of_last (h : sl.state = .warmup) (hd : sl.debt = 1) : sl.refreshed c = sl.toActive c := by
  rw [Slice.refreshed, h]
  exact if_pos hd.le

theorem Slice.refreshed_of_off (h : sl.state = .off) : sl.refreshed c = sl := by
  rw [Slice.refreshed, h]

theorem Slice.entered_of_active (h : sl.state = .active) :
    sl.entered = { sl with state := .self, debt := 0, interval := none, exitTimer := none } := by
  rw [Slice.entered, h]

theorem Slice.entered_of_off (h : sl.state = .off) : sl.entered = sl := by
  rw [Slice.entered, h]

theorem Slice.exited_of_self (h : sl.state = .self) :
    sl.exited c = { sl with state := .waking, debt := 0, interval := none, exitTimer := some c.exitTime } := by
  rw [Slice.exited, h]

theorem Slice.exited_of_off (h : sl.state = .off) : sl.exited c = sl := by
  rw [Slice.exited, h]

theorem afterSelfEnter_of_active (h : sl.state = .active) : afterSelfEnter sl = none := by
  rw [afterSelfEnter, h]

/-- A slice that has left for OFF is sent a SELF_EXIT after its SELF_ENTER (R151, R155). -/
theorem afterSelfEnter_of_off (h : sl.state = .off) : afterSelfEnter sl = some .exit := by
  rw [afterSelfEnter, h]

end Slices

/-! ### The completions -/

section Completions

variable {s : State} {k : Cs}

theorem exec_refreshCompletion (h : s.SliceEnded k .refresh) {x : Slice} (hx : s.slices[k].refreshed s.tables.chipsels[k] = x) :
    exec .refreshCompletion s = .next ((s.setTxn none).setSlice k x).conclude := by
  show execRefreshCompletion s = _
  rw [execRefreshCompletion, s.endedSlice_of_sliceEnded k _ h, ← hx]

theorem exec_selfEnterCompletion (h : s.SliceEnded k .selfEnter) {x : Slice} {cmd : Option SelfCmd} (hx : s.slices[k].entered = x)
    (hcmd : afterSelfEnter s.slices[k] = cmd) :
    exec .selfEnterCompletion s = .next
      (((s.setTxn none).setSlice k x).setRetention { s.retention with issued := s.retention.issued.set k cmd }).conclude := by
  show execSelfEnterCompletion s = _
  rw [execSelfEnterCompletion, s.endedSlice_of_sliceEnded k _ h, ← hx, ← hcmd]

theorem exec_selfExitCompletion (h : s.SliceEnded k .selfExit) {x : Slice}
    (hx : s.slices[k].exited s.tables.chipsels[k] = x) :
    exec .selfExitCompletion s = .next
      (((s.setTxn none).setSlice k x).setRetention { s.retention with issued := s.retention.issued.set k none }).conclude := by
  show execSelfExitCompletion s = _
  rw [execSelfExitCompletion, s.endedSlice_of_sliceEnded k _ h, ← hx]

end Completions

/-- Settles O36: the slice that the completion leaves, by the slice's state. -/
theorem refreshCompletionPaysTheDebt : Obligations.RefreshCompletionPaysTheDebt := by
  intro s k h
  exact ⟨fun ha => exec_refreshCompletion h (Slice.refreshed_of_active ha),
    fun hw hd => exec_refreshCompletion h (Slice.refreshed_of_warmup hw hd),
    fun hw hd => exec_refreshCompletion h (Slice.refreshed_of_last hw hd),
    fun ho => exec_refreshCompletion h (Slice.refreshed_of_off ho)⟩

/-- Settles O38: the slice and the command that each completion leaves, by the slice's state. -/
theorem selfRefreshCompletionsMoveTheSlice : Obligations.SelfRefreshCompletionsMoveTheSlice := by
  intro s k
  exact ⟨fun h ha => exec_selfEnterCompletion h (Slice.entered_of_active ha) (afterSelfEnter_of_active ha),
    fun h ho => exec_selfEnterCompletion h (Slice.entered_of_off ho) (afterSelfEnter_of_off ho),
    fun h hs => exec_selfExitCompletion h (Slice.exited_of_self hs),
    fun h ho => exec_selfExitCompletion h (Slice.exited_of_off ho)⟩

/-! ### The timers -/

section Timers

variable {s : State} {k : Cs} (hreset : s.resetAsserted = false)

include hreset

theorem exec_intervalExpiry (ha : s.slices[k].state = .active) (hi : s.slices[k].interval = some 0) :
    exec (.intervalExpiry k) s = .next
      (if s.slices[k].debt < 8 then
        (s.setSlice k { s.slices[k].startInterval s.tables.chipsels[k] with debt := s.slices[k].debt + 1 }).decide
      else ((s.setSlice k (s.slices[k].startInterval s.tables.chipsels[k])).deliver (overrunOccurrence k)).decide) :=
  congrArg _ (if_pos ⟨hreset, ha, hi⟩)

theorem exec_exitTimerExpiry (hw : s.slices[k].state = .waking) (hx : s.slices[k].exitTimer = some 0) :
    exec (.exitTimerExpiry k) s = .next (s.setSlice k (s.slices[k].toActive s.tables.chipsels[k])).conclude :=
  congrArg _ (if_pos ⟨hreset, hw, hx⟩)

end Timers

/-- Settles O37: the interval timer's expiry on both sides of a debt of 8, and the exit timer's. -/
theorem timerExpiriesRaiseDebtOrEnterActive : Obligations.TimerExpiriesRaiseDebtOrEnterActive := by
  intro s k hreset
  refine ⟨fun ha hi hd => ?_, fun ha hi hd => ?_, fun hw hx => exec_exitTimerExpiry hreset hw hx⟩
  · rw [exec_intervalExpiry hreset ha hi, if_pos hd]
    rfl
  · rw [exec_intervalExpiry hreset ha hi, if_neg (by omega)]
    rfl

end Sys2Proof.Machine

/-! ## No word on the channel while its chip select's slice is WARMUP, SELF or WAKING (O59) -/

namespace Sys2Proof.Machine

/-! ### The chip select of the word on the channel -/

/-- No event of a word moves it to another chip select (R117). -/
@[simp] theorem WordTxn.enterStrobe_cs (w : WordTxn) : w.enterStrobe.cs = w.cs := by
  unfold WordTxn.enterStrobe
  split <;> rfl

@[simp] theorem WordTxn.beginWord_cs (w : WordTxn) : w.beginWord.cs = w.cs := by
  obtain ⟨_, _, heq, -⟩ := w.exists_beginWord_eq
  rw [heq]

@[simp] theorem WordTxn.afterHold_cs (w : WordTxn) : w.afterHold.cs = w.cs := by
  unfold WordTxn.afterHold
  split <;> rfl

@[simp] theorem WordTxn.endStrobe_cs (w : WordTxn) (md : BusWord) : (w.endStrobe md).cs = w.cs := by
  unfold WordTxn.endStrobe
  dsimp only
  split
  · exact WordTxn.afterHold_cs _
  · rfl

@[simp] theorem WordTxn.period_cs (w : WordTxn) : w.period.cs = w.cs := by
  unfold WordTxn.period
  split <;> rfl

theorem WordTxn.phaseEnd_cs {w w' : WordTxn} {md : BusWord} (h : w.phaseEnd md = some w') : w'.cs = w.cs := by
  unfold WordTxn.phaseEnd at h
  split at h
  · cases h
  · split at h
    · cases h
      exact w.enterStrobe_cs
    · split at h
      · cases h
        rfl
      · cases h
        exact w.endStrobe_cs md
    · cases h
      exact w.afterHold_cs
    · cases h
      rfl
    · cases h
    · cases h

theorem WordTxn.ready_cs {w w' : WordTxn} {md : BusWord} (h : w.ready md = some w') : w'.cs = w.cs := by
  obtain ⟨-, ⟨⟩⟩ := Option.ite_none_right_eq_some.1 h
  exact w.endStrobe_cs md

theorem WordTxn.exceed_cs {w w' : WordTxn} (h : w.exceed = some w') : w'.cs = w.cs := by
  obtain ⟨-, ⟨⟩⟩ := Option.ite_none_right_eq_some.1 h
  exact WordTxn.endStrobe_cs _ _

section WordFor

variable {s : State} {c c' : Channel} {k : Cs}

theorem Channel.wordFor_congr (h : c'.txn = c.txn) : c'.wordFor k = c.wordFor k := by
  rw [Channel.wordFor, h, Channel.wordFor]

theorem Channel.wordFor_of_free (h : c.txn = none) : c.wordFor k = false := by
  rw [Channel.wordFor, h]

theorem Channel.wordFor_of_word {w : WordTxn} (h : c.txn = some (.word w)) : c.wordFor k = (w.cs == k) := by
  rw [Channel.wordFor, h]

theorem State.endedWord_txn {w : WordTxn} (h : s.endedWord = some w) : s.channel.txn = some (.word w) := by
  unfold State.endedWord at h
  split at h
  · next htxn =>
    obtain ⟨-, ⟨⟩⟩ := Option.ite_none_right_eq_some.1 h
    exact htxn
  · cases h

theorem State.period_wordFor (s : State) (k : Cs) : s.period.channel.wordFor k = s.channel.wordFor k := by
  simp only [State.period, Channel.wordFor]
  cases s.channel.txn with
  | none => rfl
  | some t => cases t <;> simp [Txn.period]

theorem State.wordEvent_wordFor {f : WordTxn → Option WordTxn} (hf : ∀ w w', f w = some w' → w'.cs = w.cs) :
    (s.wordEvent f).channel.wordFor k = s.channel.wordFor k := by
  unfold State.wordEvent
  split
  · next w _ htxn =>
    split
    · next w' hw' =>
      rw [Channel.wordFor_of_word rfl, Channel.wordFor_of_word htxn, hf w w' hw']
    · rfl
  · rfl

/-- The return to WAKE changes the patience count only (R108). -/
theorem State.rewake_wordFor (s : State) (k : Cs) : s.rewake.channel.wordFor k = s.channel.wordFor k := by
  rw [State.rewake, ← s.rewakeSp_channel]
  unfold State.rewakeAp
  (repeat' split) <;> rfl

end WordFor

/-! ### The invariant

`State.WordsAwake` is what an event keeps up to the controller's tests; those tests bring the ports' holds up to date, so that
`State.Awake`, with the two clauses about GRANT, holds when the Arbiter decides. -/

/-- A word on the channel is for a slice that is OFF or ACTIVE, and a slice out of OFF belongs to a DRAM chip select (R148). -/
structure State.WordsAwake (s : State) : Prop where
  word : ∀ k : Cs, s.channel.wordFor k = true → s.slices[k].state.wakes = false
  dram : ∀ k : Cs, s.slices[k].state ≠ .off → s.tables.chipsels[k].cls = .dram

/-- Besides, no access in GRANT meets the wake condition (R69, R92). -/
structure State.Awake (s : State) : Prop extends State.WordsAwake s where
  sp : ∀ d, s.sp.access = .hold .grant d → s.descHeld d = false
  ap : ∀ d, s.ap.phase = .grant → s.ap.desc = some d → s.descHeld d = false

theorem SysPort.mem_granting_iff {p : SysPort} {d : Descriptor} : d ∈ p.granting ↔ p.access = .hold .grant d := by
  unfold SysPort.granting
  split
  · next x hx => simp [hx]
  · next hno => simpa using hno d

theorem AuxPort.mem_granting_iff {a : AuxPort} {d : Descriptor} : d ∈ a.granting ↔ a.phase = .grant ∧ a.desc = some d := by
  unfold AuxPort.granting
  split
  · next hp => simp [hp]
  · next hno => simpa using fun hp => absurd hp hno

theorem Channel.mem_word_iff {c : Channel} {w : WordTxn} : w ∈ c.word ↔ c.txn = some (.word w) := by
  unfold Channel.word
  split
  · next x hx => simp only [hx, Option.mem_def, Option.some.injEq, Txn.word.injEq]
  · next hno => exact ⟨nofun, fun hw => absurd hw (hno w)⟩

theorem State.awake_iff (s : State) : s.Awake ↔ s.NoWordWhileAsleep := by
  have hword : (∀ k : Cs, s.channel.wordFor k = true → s.slices[k].state.wakes = false) ↔
      ∀ w ∈ s.channel.word, s.slices[w.cs].state.wakes = false := by
    refine ⟨fun h w hw => h w.cs (Channel.wordFor_iff.2 ⟨w, Channel.mem_word_iff.1 hw, rfl⟩), fun h k hk => ?_⟩
    obtain ⟨w, hw, rfl⟩ := Channel.wordFor_iff.1 hk
    exact h w (Channel.mem_word_iff.2 hw)
  unfold State.NoWordWhileAsleep
  simp only [← hword, SysPort.mem_granting_iff, AuxPort.mem_granting_iff, and_imp]
  exact ⟨fun ⟨⟨hw, hd⟩, hsp, hap⟩ => ⟨hw, hd, hsp, hap⟩, fun ⟨hw, hd, hsp, hap⟩ => ⟨⟨hw, hd⟩, hsp, hap⟩⟩

/-- An access that the wake condition does not hold is not held when no slice changes its state, no class changes and the Retention
Controller holds no further chip select (R68). -/
theorem State.descHeld_mono {s s' : State} {d : Descriptor} (h : s.descHeld d = false)
    (hs : ∀ k : Cs, s'.slices[k].state = s.slices[k].state) (hc : s'.tables.chipsels = s.tables.chipsels)
    (hr : ∀ k, s'.retention.holds k = true → s.retention.holds k = true) : s'.descHeld d = false := by
  unfold State.descHeld at h ⊢
  cases ht : d.target with
  | none => rfl
  | some t =>
    simp only [ht, State.wakeHolds, Bool.or_eq_false_iff] at h ⊢
    obtain ⟨hwakes, hholds⟩ := h
    rw [hc, hs]
    exact ⟨hwakes, Bool.eq_false_iff.2 fun hk => Bool.eq_false_iff.1 hholds (hr _ hk)⟩

/-! ### Up to the controller's tests -/

namespace State.WordsAwake

variable {s s' : State}

theorem mono (h : s.WordsAwake) (hw : ∀ k, s'.channel.wordFor k = true → s.channel.wordFor k = true := by exact fun _ => id)
    (hs : ∀ k : Cs, s'.slices[k].state = s.slices[k].state := by exact fun _ => rfl)
    (hc : s'.tables.chipsels = s.tables.chipsels := by rfl) : s'.WordsAwake where
  word k hk := by
    rw [hs]
    exact h.word k (hw k hk)
  dram k hk := by
    rw [hc]
    exact h.dram k (by rwa [hs] at hk)

/-- A FREE channel carries no word. -/
theorem of_free (h : s.WordsAwake) (hfree : s'.channel.txn = none)
    (hs : ∀ k : Cs, s'.slices[k].state = s.slices[k].state := by exact fun _ => rfl)
    (hc : s'.tables.chipsels = s.tables.chipsels := by rfl) : s'.WordsAwake :=
  h.mono (fun _ hk => by simp [Channel.wordFor_of_free hfree] at hk) hs hc

/-- A change of one chip select's slice and descriptor. -/
theorem replace (h : s.WordsAwake) (k : Cs) {x : Slice} {c : ChipSel} (hch : s'.channel = s.channel)
    (hs : s'.slices = s.slices.set k x) (hc : s'.tables.chipsels = s.tables.chipsels.set k c)
    (hword : s.channel.wordFor k = true → x.state.wakes = false) (hdram : x.state ≠ .off → c.cls = .dram) : s'.WordsAwake where
  word j hj := by
    rw [hch] at hj
    rw [hs, Fin.getElem_fin, Vector.getElem_set]
    split
    · next hkj => exact hword (Fin.ext hkj ▸ hj)
    · exact h.word j hj
  dram j := by
    rw [hs, hc]
    simp only [Fin.getElem_fin, Vector.getElem_set]
    split
    · exact hdram
    · exact h.dram j

theorem setSlice (h : s.WordsAwake) (k : Cs) {x : Slice} (hword : s.channel.wordFor k = true → x.state.wakes = false)
    (hdram : x.state ≠ .off → s.tables.chipsels[k].cls = .dram) : (s.setSlice k x).WordsAwake :=
  h.replace k rfl rfl (Vector.set_getElem_self _).symm hword hdram

/-- The completion of a slice's transaction, after which an OFF slice is still OFF. -/
theorem completeSlice (h : s.WordsAwake) (k : Cs) {x : Slice} (hoff : s.slices[k].state = .off → x = s.slices[k]) :
    ((s.setTxn none).setSlice k x).WordsAwake :=
  (h.of_free (s' := s.setTxn none) rfl).setSlice k nofun fun hx => h.dram k fun ho => hx (hoff ho ▸ ho)

/-- An access that the wake condition does not hold finds its slice OFF or ACTIVE (R68, R91). -/
theorem wakes_of_not_held (h : s.WordsAwake) {d : Descriptor} {t : Target} (ht : d.target = some t) (hd : s.descHeld d = false) :
    s.slices[t.cs].state.wakes = false := by
  rw [State.descHeld, ht] at hd
  obtain ⟨hslice, -⟩ := Bool.or_eq_false_iff.1 hd
  by_cases ho : s.slices[t.cs].state = .off
  · rw [ho]
    rfl
  · rwa [h.dram _ ho, beq_self_eq_true, Bool.true_and] at hslice

/-- A head that may drain finds its slice OFF or ACTIVE (R44). -/
theorem wakes_of_eligible (h : s.WordsAwake) {e : Entry} (he : s.eligible e = true) : s.slices[e.cs].state.wakes = false := by
  obtain ⟨-, hsram | ⟨-, hoff | hactive⟩, -⟩ := State.eligible_iff.1 he
  · have hoff : s.slices[e.cs].state = .off := by
      by_contra ho
      cases hsram.symm.trans (h.dram _ ho)
    rw [hoff]
    rfl
  · rw [hoff]
    rfl
  · rw [hactive]
    rfl

/-! #### The controller's tests -/

theorem rewake (h : s.WordsAwake) : s.rewake.WordsAwake :=
  h.mono (fun k => by rw [State.rewake_wordFor]; exact id) (by simp) (by simp)

theorem sequenceBegin (h : s.WordsAwake) : s.sequenceBegin.WordsAwake := h.mono (by simp) (by simp) (by simp)

theorem sequenceEnd (h : s.WordsAwake) : s.sequenceEnd.WordsAwake := h.mono (by simp) (by simp) (by simp)

theorem resumeEnd (h : s.WordsAwake) : s.resumeEnd.WordsAwake := h.mono (by simp) (by simp) (by simp)

end State.WordsAwake

/-- After the ports have followed the wake condition, the System Port's access in GRANT does not meet it (R69). -/
theorem State.rewakeSp_grant {s : State} {d : Descriptor} (h : s.rewakeSp.sp.access = .hold .grant d) : s.descHeld d = false := by
  unfold State.rewakeSp at h
  split at h
  · split at h <;> simp_all
  · split at h <;> simp_all
  · simp_all

/-- The same of the Auxiliary Port (R92). -/
theorem State.rewakeAp_grant {s : State} {d : Descriptor} (hp : s.rewakeAp.ap.phase = .grant) (hd : s.rewakeAp.ap.desc = some d) :
    s.descHeld d = false := by
  unfold State.rewakeAp at hp hd
  split at hp
  · split at hp <;> simp_all
  · split at hp <;> simp_all
  · simp_all

namespace State.Awake

variable {s s' : State}

theorem of_rewake (h : s.WordsAwake) : s.rewake.Awake where
  toWordsAwake := h.rewake
  sp d hd := by
    rw [State.rewake, State.rewakeAp_sp] at hd
    exact State.descHeld_mono (State.rewakeSp_grant hd) (by simp) (by simp) (by simp)
  ap d hp hd := by
    rw [State.rewake] at hp hd ⊢
    exact State.descHeld_mono (State.rewakeAp_grant hp hd) (by simp) (by simp) (by simp)

theorem of_settle (h : s.WordsAwake) : s.settle.Awake := of_rewake h.rewake.sequenceBegin.rewake.sequenceEnd.resumeEnd

end State.Awake

end Sys2Proof.Machine

namespace Sys2Proof.Machine

/-! ### One lemma per operation of the state -/

/-- From RETAINED to RESUMING the controller holds the same participants (R68, R157). -/
@[simp] theorem State.autoResume_holds (s : State) (d : Descriptor) (k : Cs) :
    (s.autoResume d).retention.holds k = s.retention.holds k := by
  unfold State.autoResume
  split
  · next hr =>
    have hstate : s.retention.state = .retained := eq_of_beq (Bool.and_eq_true_iff.1 hr).1
    rw [Retention.holds, Retention.holds, hstate]
    rfl
  · rfl

namespace State.Awake

variable {s s' : State}

theorem mono (h : s.Awake) (hw : ∀ k, s'.channel.wordFor k = true → s.channel.wordFor k = true := by exact fun _ => id)
    (hs : ∀ k : Cs, s'.slices[k].state = s.slices[k].state := by exact fun _ => rfl)
    (hc : s'.tables.chipsels = s.tables.chipsels := by rfl)
    (hr : ∀ k, s'.retention.holds k = true → s.retention.holds k = true := by exact fun _ => id)
    (hsp : ∀ d, s'.sp.access = .hold .grant d → s.sp.access = .hold .grant d := by exact fun _ => id)
    (hap : s'.ap.phase = .grant → s.ap.phase = .grant ∧ s'.ap.desc = s.ap.desc := by exact fun hp => ⟨hp, rfl⟩) : s'.Awake where
  toWordsAwake := h.toWordsAwake.mono hw hs hc
  sp d hd := State.descHeld_mono (h.sp d (hsp d hd)) hs hc hr
  ap d hp hd := by
    obtain ⟨hp, hdesc⟩ := hap hp
    exact State.descHeld_mono (h.ap d hp (hdesc ▸ hd)) hs hc hr

theorem of_sameUnits (h : s.Awake) (hu : s.SameUnits s') : s'.Awake := by
  obtain ⟨hc, -, hsp, hap, hch, hs, hr⟩ := hu
  exact h.mono (by simp [hch]) (by simp [hs]) hc (by simp [hr]) (by simp [hsp]) (by simp [hap])

theorem endLock (h : s.Awake) : s.endLock.Awake := h.mono

theorem deliver (h : s.Awake) (o : Occurrence) : (s.deliver o).Awake := h.mono

theorem setTables (h : s.Awake) {x : Tables} (hc : x.chipsels = s.tables.chipsels) : (s.setTables x).Awake := h.mono (hc := hc)

theorem setAccess (h : s.Awake) {a : SpAccess} (ha : ∀ d, a = .hold .grant d → s.descHeld d = false) : (s.setAccess a).Awake :=
  ⟨h.toWordsAwake.mono, ha, h.ap⟩

theorem setAp (h : s.Awake) {a : AuxPort} (ha : a.phase = .grant → ∀ d, a.desc = some d → s.descHeld d = false) :
    (s.setAp a).Awake :=
  ⟨h.toWordsAwake.mono, h.sp, fun d hp => ha hp d⟩

theorem autoResume (h : s.Awake) (d : Descriptor) : (s.autoResume d).Awake :=
  h.mono (by simp) (by simp) (by simp) (by simp) (by simp) (by simp)

/-! #### The Arbiter -/

theorem beginSlice (h : s.Awake) (k : Cs) (op : SliceOp) : (s.beginSlice k op).Awake := h.mono (hw := nofun)

/-- A word begins for a chip select whose slice is OFF or ACTIVE (R148). -/
theorem beginWord (h : s.Awake) {t : Target} (ht : s.slices[t.cs].state.wakes = false) (x : WordHolder) (dir : Direction) (n : Nat)
    (m : Lanes) (data : List BusWord) : (s.beginWord x dir t n m data).Awake where
  word k hk := by
    rw [Channel.wordFor_of_word rfl, WordTxn.beginWord_cs, beq_iff_eq] at hk
    exact hk ▸ ht
  dram := h.dram
  sp := h.sp
  ap := h.ap

/-- A slice that keeps its state. -/
theorem setSlice (h : s.Awake) (k : Cs) {x : Slice} (hx : x.state = s.slices[k].state) : (s.setSlice k x).Awake := by
  refine h.mono (hs := fun j => ?_)
  rw [State.setSlice_slices, Fin.getElem_fin, Vector.getElem_set]
  split
  · next hkj =>
    obtain rfl := Fin.ext hkj
    exact hx
  · rfl

theorem grant (h : s.Awake) {l : Level} {r : Request} (hr : (l, r) ∈ s.requests) : (s.grant r).Awake := by
  match r with
  | .refresh k => exact h.beginSlice k _
  | .command k .enter => exact (h.setSlice k (by rfl)).beginSlice k _
  | .command k .exit => exact h.beginSlice k _
  | .ap d t =>
    obtain ⟨hp, hd, ht, -⟩ := State.apRequest_eq_some.1 (State.mem_requests_ap.1 hr).1
    have hwakes := h.wakes_of_not_held ht (h.ap d hp hd)
    exact (h.mono (s' := (s.setApPhase .burst).setChannel { s.channel with patience := 0 }) (hap := nofun)).beginWord hwakes ..
  | .sp d t =>
    obtain ⟨hacc, ht⟩ := State.spRequest_eq_some.1 (State.mem_requests_sp.1 hr).1
    have hwakes := h.wakes_of_not_held ht (h.sp d hacc)
    exact (h.mono (s' := (s.setAccess (.channel false d)).setChannel { s.channel with patience := s.patienceAfterSp })
      (hsp := fun _ => nofun)).beginWord hwakes ..
  | .head e =>
    obtain ⟨-, he⟩ := State.headRequest_eq_some.1 (State.mem_requests_head.1 hr).1
    exact (h.mono (s' := s.setQueue (markHead s.queue))).beginWord (t := ⟨e.region, e.cs, e.phys, e.profile⟩)
      (h.wakes_of_eligible he) ..

theorem decide (h : s.Awake) : s.decide.Awake := by
  cases hc : s.channel.txn with
  | some x =>
    rw [s.decide_of_busy x hc]
    exact h
  | none =>
    obtain ⟨-, heq⟩ | ⟨l, r, hmem, -, heq⟩ := State.decide_of_free hc
    · rw [heq]
      exact h
    · rw [heq]
      exact h.grant hmem

theorem of_conclude (h : s.WordsAwake) : s.conclude.Awake := (of_settle h).decide

/-! #### The System Port -/

/-- The wake check puts no access that the wake condition holds in GRANT (R68). -/
theorem spWakeCheck (h : s.Awake) (d : Descriptor) : (s.spWakeCheck d).Awake := by
  refine h.setAccess fun d' hd' => ?_
  cases hh : s.descHeld d with
  | true => simp [hh] at hd'
  | false =>
    obtain ⟨-, rfl⟩ := SpAccess.hold.inj hd'
    exact hh

theorem offerPosted (h : s.Awake) (d : Descriptor) (t : Target) : (s.offerPosted d t).Awake := by
  unfold State.offerPosted
  split
  · next q _ => exact (h.mono (s' := s.setQueue q)).setAccess fun _ => nofun
  · exact h.setAccess fun _ => nofun

theorem placeSp (h : s.Awake) (d : Descriptor) : (s.placeSp d).Awake := by
  unfold State.placeSp
  split
  · exact h.offerPosted _ _
  · split
    · exact h.setAccess fun _ => nofun
    · exact h.spWakeCheck _

theorem handOnSp (h : s.Awake) (d : Descriptor) : (s.handOnSp d).Awake := by
  unfold State.handOnSp
  split
  · exact h.setAccess fun _ => nofun
  · exact (h.placeSp d).autoResume d

theorem presentSp (h : s.Awake) (t : SpTerminals) : (s.presentSp t).Awake := by
  rw [State.presentSp_eq]
  split
  · exact (h.endLock.deliver _).setAccess fun _ => nofun
  · exact (h.setTables (Tables.capture_chipsels ..)).handOnSp _
  · exact (h.endLock.setTables (Tables.capture_chipsels ..)).handOnSp _

theorem endAccess (h : s.Awake) : s.endAccess.Awake := by
  unfold State.endAccess
  split
  · exact h
  · exact h.setAccess fun _ => nofun
  · dsimp only
    split
    · exact ((h.deliver _).endLock.setAccess (a := .idle) fun _ => nofun).decide
    · exact ((h.deliver _).setAccess (a := .idle) fun _ => nofun).decide
  · exact h.setAccess fun _ => nofun
  · exact h.mono

/-! #### The Auxiliary Port -/

theorem takeBeat (h : s.Awake) (b : BusWord) : (s.takeBeat b).Awake := by
  unfold State.takeBeat
  split
  · exact h.mono
  · exact h

/-- A request goes to GRANT only when the wake condition does not hold (R91). -/
theorem presentAp (h : s.Awake) (t : ApTerminals) : (s.presentAp t).Awake := by
  cases hf : (s.apDecoded t).faulted with
  | true =>
    obtain ⟨k, hk⟩ := (Descriptor.faulted_iff _).1 hf
    rw [State.presentAp_of_fault hk]
    exact (h.setAp fun hp => by cases hp).deliver _
  | false =>
    obtain ⟨tg, (ht : (s.apDecoded t).target = some tg)⟩ := Tables.decode_target_of_not_faulted _ _ _ hf
    obtain ⟨p, hp⟩ := s.exists_apPlaced tg (barrierOf s.queue tg (apWords t))
    rw [State.presentAp_of_target hf ht hp]
    have hport : (s.setAp (requestedPort p (s.apDecoded t) (barrierOf s.queue tg (apWords t))
        (if t.wr = true then t.beat.toList else []))).Awake := by
      refine h.setAp fun hgrant d hd => ?_
      cases hd
      rw [← Bool.not_eq_true, State.descHeld_iff ht]
      obtain ⟨-, rfl⟩ | ⟨-, -, rfl⟩ | ⟨-, hno, -⟩ := hp
      · cases hgrant
      · cases hgrant
      · exact hno
    have hresumed := hport.autoResume (s.apDecoded t)
    rwa [State.autoResume_of_target _ _ tg ht] at hresumed

theorem releaseAxReq (h : s.Awake) : s.releaseAxReq.Awake :=
  h.mono (fun k hk => Channel.wordFor_congr s.releaseAxReq_txn ▸ hk) (by simp) (by simp) (by simp) (by simp)
    fun hp => absurd hp s.releaseAxReq_phase

/-! #### The Channel Sequencer, commits and time -/

theorem wordEvent (h : s.Awake) {f : WordTxn → Option WordTxn} (hf : ∀ w w', f w = some w' → w'.cs = w.cs) :
    (s.wordEvent f).Awake :=
  h.mono (fun k => by rw [State.wordEvent_wordFor hf]; exact id) (by simp) (by simp) (by simp) (by simp) (by simp)

theorem commit (h : s.Awake) (bytes : List Byte) {r : Reply} (hr : r.state.Awake) : (s.commit bytes r).Awake := by
  unfold State.commit
  split
  · exact hr.mono
  · exact h

theorem idleStep (h : s.Awake) : s.idleStep.Awake := by
  unfold State.idleStep
  split
  · exact h
  · exact h.mono (fun k => by rw [State.period_wordFor]; exact id) (fun k => by simp [State.period, Slice.period])

end State.Awake

end Sys2Proof.Machine

namespace Sys2Proof.Machine

/-! ### Every command keeps the invariant -/

/-- A System Port completion changes no chip-select descriptor (R25). -/
theorem State.completeSp_chipsels (s : State) (w : WordTxn) (withdrawn : Bool) (d : Descriptor) (t : SpTerminals) :
    (s.completeSp w withdrawn d t).tables.chipsels = s.tables.chipsels := by
  cases withdrawn with
  | true =>
    rw [State.completeSp_of_withdrawn]
    split <;> simp [State.presentSp_tables]
  | false => simp [State.completeSp_of_not_withdrawn]

/-- A descriptor that is taken passes checks 1 and 2 of R119, and the state does not refuse it. -/
theorem State.fits_of_chipselCheck {s : State} {k : Cs} {c : ChipSel} (h : s.chipselCheck k c = none) :
    c.Fits ∧ ¬ s.RefusesChange k c := by
  classical
  by_cases hf : c.Fits
  · refine ⟨hf, fun hr => ?_⟩
    rw [State.chipselCheck_of_fits hf, if_pos hr] at h
    cases h
  · rw [State.chipselCheck_of_not_fits hf] at h
    cases h

section Replies

variable {s : State}

/-- A descriptor that is taken: a slice leaves OFF only for a DRAM chip select with no word on the channel, and no slice is left out of
OFF for another class (R119, R121, R122). -/
theorem State.WordsAwake.describe (h : s.WordsAwake) {k : Cs} {c : ChipSel} (hc : s.chipselCheck k c = none) :
    ((s.setTables { s.tables with chipsels := s.tables.chipsels.set k c }).sliceEffects k s.tables.chipsels[k] c).WordsAwake := by
  obtain ⟨⟨-, hfit⟩, hno⟩ := State.fits_of_chipselCheck hc
  by_cases hleft : s.tables.chipsels[k].cls = .dram ∧ c.cls ≠ .dram
  · rw [State.sliceEffects_of_class_left hleft]
    exact h.replace k rfl rfl rfl (fun _ => rfl) fun ho => absurd rfl ho
  · cases ho : s.tables.chipsels[k].enable <;> cases hn : c.enable
    case false.true =>
      rw [State.sliceEffects_of_enable hleft ho hn]
      refine h.replace k rfl rfl rfl (fun hword => absurd (.inr ?_) hno) fun _ => hfit hn
      exact State.enableChangeRefused_iff.2 (.inl ⟨ho, hn, .inr (.inr (Channel.wordFor_iff.1 hword))⟩)
    case true.false =>
      rw [State.sliceEffects_of_disable hleft ho hn]
      exact h.replace k rfl rfl rfl (fun _ => rfl) fun ho => absurd rfl ho
    all_goals
      rw [State.sliceEffects_of_enable_kept hleft (ho.trans hn.symm)]
      exact h.replace k rfl (Vector.set_getElem_self _).symm rfl (h.word k) fun hoff =>
        Classical.byContradiction fun hcls => hleft ⟨h.dram k hoff, hcls⟩

theorem chipselReply_keeps_awake (h : s.Awake) (k : Cs) (c : ChipSel) : (chipselReply s k c).state.Awake := by
  unfold chipselReply
  split
  · exact h
  · next hc =>
    rw [Reply.done_state]
    exact .of_conclude (h.toWordsAwake.describe hc)

theorem enterReply_keeps_awake (h : s.Awake) : (enterReply s).state.Awake := by
  unfold enterReply
  split
  · rw [Reply.done_state]
    exact .of_conclude h.toWordsAwake.mono
  all_goals exact h

/-- DRAINING that has not begun holds no chip select, so that its end holds none either (R68, R158). -/
theorem exitReply_keeps_awake (h : s.Awake) : (exitReply s).state.Awake := by
  unfold exitReply
  split
  · exact h
  · split
    · exact h
    · exact h.mono (hr := fun k hk => by simp [Retention.holds] at hk)
  · rw [Reply.done_state]
    exact .of_conclude h.toWordsAwake.mono
  · exact h

/-- At CONFIG_RESET nothing waits, and every slice goes to OFF (R176). -/
theorem configResetReply_keeps_awake (h : s.Awake) : (configResetReply s).state.Awake := by
  unfold configResetReply
  split
  · next hquiet =>
    simp only [State.quiescent, Bool.and_eq_true, Bool.not_eq_true'] at hquiet
    obtain ⟨⟨⟨⟨-, hhold⟩, hwait⟩, -⟩, -⟩ := hquiet
    have hoff (k : Cs) : (Vector.replicate 4 Slice.reset)[k].state = .off := by
      rw [replicate_getElem_fin]
      rfl
    rw [Reply.done_state]
    exact
      { word := fun k _ => by
          rw [State.setSlices_slices, hoff]
          rfl
        dram := fun k hk => absurd (hoff k) hk
        sp := fun d hd => by
          rw [State.setSlices_sp, State.setTables_sp] at hd
          simp [SysPort.inHold, hd] at hhold
        ap := fun d hp => by
          rw [State.setSlices_ap, State.setTables_ap] at hp
          simp [AuxPort.waiting, hp] at hwait }
  · exact h

end Replies

/-- Every command keeps the invariant: it ends in the controller's tests and a decision, or changes nothing that the invariant reads
but for what the lemma of its operation says. -/
theorem exec_keeps_awake (c : Instr) {s s' : State} (h : s.Awake) (hx : exec c s = .next s') : s'.Awake := by
  have hunits (hc : Instr.keepsUnits c = true) := exec_keeps_units hc hx
  cases c <;> injection hx with hx <;> subst hx
  case spPresentation t =>
    split
    · exact (h.presentSp t).decide
    · exact h
  case spAccessEnd =>
    split
    · exact h
    · exact h.endAccess
  case lockNRelease =>
    split
    · exact h
    · exact h.endLock.decide
  case deferredPresentation =>
    split
    · exact h
    · split
      · exact h.mono
      · exact h
  case spReleaseSeen =>
    split
    · exact h
    · exact h.mono
  case apPresentation t =>
    split
    · exact (h.presentAp t).decide
    · split
      · exact h
      · exact h.mono
  case writeBeat d =>
    split
    · exact (h.takeBeat d).decide
    · exact h
  case axReqRelease =>
    split
    · exact h
    · exact h.releaseAxReq
  case closingPeriodEnd =>
    split
    · exact h
    · split
      · exact h.setAp nofun
      · exact h
  case phaseEnd md => exact h.wordEvent fun _ _ => WordTxn.phaseEnd_cs
  case mrdyReady md => exact h.wordEvent fun _ _ => WordTxn.ready_cs
  case readyLimitExceeded => exact h.wordEvent fun _ _ => WordTxn.exceed_cs
  case spTransactionCompletion t =>
    split
    · split
      · exact .of_conclude (h.toWordsAwake.of_free (by simp) (by simp) (State.completeSp_chipsels ..))
      · exact h
    · exact h
  case drainCompletion | burstCompletion =>
    split
    · split
      · exact .of_conclude (h.toWordsAwake.of_free (by simp) (by simp) (by simp))
      · exact h
    · exact h
  case burstWordEnd =>
    split
    · next w hw =>
      split
      · refine h.mono (hw := fun k hk => ?_)
        rw [Channel.wordFor_of_word rfl, WordTxn.beginWord_cs] at hk
        rw [Channel.wordFor_of_word (State.endedWord_txn hw), hk]
      · exact h
    · exact h
  case refreshCompletion =>
    split
    · exact .of_conclude (h.toWordsAwake.completeSlice _ Slice.refreshed_of_off)
    · exact h
  case selfEnterCompletion =>
    split
    · exact .of_conclude (h.toWordsAwake.completeSlice _ Slice.entered_of_off).mono
    · exact h
  case selfExitCompletion =>
    split
    · exact .of_conclude (h.toWordsAwake.completeSlice _ Slice.exited_of_off).mono
    · exact h
  case intervalExpiry k =>
    dsimp only
    split
    · split
      · exact (h.setSlice k (by rfl)).decide
      · exact ((h.setSlice k (by rfl)).deliver _).decide
    · exact h
  case exitTimerExpiry k =>
    dsimp only
    split
    · next hk =>
      obtain ⟨-, hwaking, -⟩ := hk
      exact .of_conclude (h.toWordsAwake.setSlice k (fun _ => rfl) fun _ => h.dram k (by rw [hwaking]; nofun))
    · exact h
  case frameStart | frameEnd | unknownOpcode | getSummary | readItem | writeRegion | writeProfile | writeBankwin
      | writeQueueWatermark | writeAlertEnables | popFault | peekFault | clearCauses => exact h.of_sameUnits (hunits rfl)
  case writeChipsel k p => exact h.commit _ (chipselReply_keeps_awake h k _)
  case enterRetention => exact h.commit _ (enterReply_keeps_awake h)
  case exitRetention => exact h.commit _ (exitReply_keeps_awake h)
  case configReset => exact h.commit _ (configResetReply_keeps_awake h)
  case pinReset => exact (State.reset.awake_iff.2 State.reset_noWordWhileAsleep).mono
  case resetRelease =>
    split
    · exact h.mono
    · exact h

/-- Settles O59: the invariant as `State.Awake`, kept by the idle step and by every command. -/
theorem noWordOnTheChannelWhileAsleep : Obligations.NoWordOnTheChannelWhileAsleep := by
  intro s s' h hx
  rw [← State.awake_iff] at h ⊢
  unfold step at hx
  split at hx
  · cases hx
    exact h.idleStep
  · next c rest _ =>
    have hrest : ({ s with pending := rest } : State).Awake := h.mono
    exact exec_keeps_awake c hrest hx

end Sys2Proof.Machine

/-! ## The retention commands and the Retention Controller's tests (O40, O41) -/

namespace Sys2Proof.Machine

/-! ### What the tests ask -/

section Tests

variable {s : State} {d : Descriptor}

theorem State.allParticipants_iff {p : Slice → Bool} :
    s.allParticipants p = true ↔ ∀ k : Cs, s.retention.participants[k] = true → p s.slices[k] = true := by
  simp [State.allParticipants, ← Bool.not_eq_true, ← imp_iff_not_or]

theorem State.forParticipant_iff :
    s.forParticipant d = true ↔ ∃ t, d.target = some t ∧ s.retention.participants[t.cs] = true := by
  unfold State.forParticipant
  cases d.target <;> simp

/-- No port transaction is on the channel when a word on it is the queue head's (R153). -/
theorem Channel.portTxn_eq_false_iff {c : Channel} : c.portTxn = false ↔ ∀ w, c.txn = some (.word w) → w.holder = .head := by
  unfold Channel.portTxn
  split
  · next w hw => simp [hw]
  · next hno => simpa using fun w hw => absurd hw (hno w)

/-- The conditions of R153. -/
theorem State.mayBegin_iff :
    s.mayBegin = true ↔
      s.retention.state = .draining ∧ s.retention.begun = false ∧ s.queue = []
        ∧ (∀ k : Cs, s.retention.participants[k] = true → s.slices[k].state = .active ∧ s.slices[k].debt = 0)
        ∧ ∀ w, s.channel.txn = some (.word w) → w.holder = .head := by
  simp only [State.mayBegin, Bool.and_eq_true, Bool.not_eq_true', beq_iff_eq, List.isEmpty_iff, State.allParticipants_iff,
    Channel.portTxn_eq_false_iff, and_assoc]

/-- The work for participants that R155 asks about, place by place. -/
theorem State.participantWork_iff :
    s.participantWork = true ↔
      (∃ d, (s.sp.access = .hold .wake d ∨ s.sp.access = .hold .full d) ∧ s.forParticipant d = true)
        ∨ (∃ d, s.ap.phase = .wake ∧ s.ap.desc = some d ∧ s.forParticipant d = true)
        ∨ ∃ e ∈ s.queue, s.retention.participants[e.cs] = true := by
  have hqueue : s.queue.any (fun e => s.retention.participants[e.cs]) = true ↔
      ∃ e ∈ s.queue, s.retention.participants[e.cs] = true := List.any_eq_true
  unfold State.participantWork
  rw [Bool.or_eq_true, Bool.or_eq_true, hqueue, or_assoc]
  refine or_congr ?_ (or_congr ?_ Iff.rfl)
  · split
    · next d hd => simp [hd]
    · next d hd => simp [hd]
    · next hwake hfull => simpa using fun d hd => hd.elim (absurd · (hwake d)) (absurd · (hfull d))
  · split
    · next d hp hd => simp [hp, hd]
    · next hno => simpa using fun hp d hd => absurd hd (hno d hp)

end Tests

/-! ### What each test does -/

section Moves

variable {s : State}

theorem State.sequenceBegin_of_mayBegin (h : s.mayBegin = true) :
    s.sequenceBegin = s.setRetention { s.retention with begun := true, issued := s.retention.issueAll .enter } := if_pos h

theorem State.sequenceBegin_of_not (h : ¬ s.mayBegin = true) : s.sequenceBegin = s := if_neg h

/-- The self-refresh entry sequence has brought every participant to SELF (R155). -/
def State.SequenceDone (s : State) : Prop :=
  s.retention.state = .draining ∧ s.retention.begun = true
    ∧ ∀ k : Cs, s.retention.participants[k] = true → s.slices[k].state = .self

/-- Every participant of a controller in RESUMING is ACTIVE again (R159). -/
def State.ResumeDone (s : State) : Prop :=
  s.retention.state = .resuming ∧ ∀ k : Cs, s.retention.participants[k] = true → s.slices[k].state = .active

theorem State.sequenceDone_iff :
    (s.retention.state == .draining && s.retention.begun && s.allParticipants (fun sl => sl.state == .self)) = true ↔
      s.SequenceDone := by
  simp only [State.SequenceDone, Bool.and_eq_true, beq_iff_eq, State.allParticipants_iff, and_assoc]

theorem State.resumeDone_iff :
    (s.retention.state == .resuming && s.allParticipants (fun sl => sl.state == .active)) = true ↔ s.ResumeDone := by
  simp only [State.ResumeDone, Bool.and_eq_true, beq_iff_eq, State.allParticipants_iff]

theorem State.sequenceEnd_of_work (h : s.SequenceDone) (hw : s.participantWork = true) : s.sequenceEnd = s.enterResuming := by
  rw [State.sequenceEnd, if_pos (State.sequenceDone_iff.2 h), if_pos hw]

theorem State.sequenceEnd_of_no_work (h : s.SequenceDone) (hw : ¬ s.participantWork = true) :
    s.sequenceEnd = (s.setRetention { s.retention with state := .retained, begun := false }).setFaults s.faults.setRetain := by
  rw [State.sequenceEnd, if_pos (State.sequenceDone_iff.2 h), if_neg hw]

theorem State.sequenceEnd_of_not (h : ¬ s.SequenceDone) : s.sequenceEnd = s := if_neg (mt State.sequenceDone_iff.1 h)

theorem State.resumeEnd_of_done (h : s.ResumeDone) :
    s.resumeEnd =
      (s.setRetention { s.retention with state := .running, begun := false, participants := Vector.replicate 4 false }).setFaults
        s.faults.setRetain := if_pos (State.resumeDone_iff.2 h)

theorem State.resumeEnd_of_not (h : ¬ s.ResumeDone) : s.resumeEnd = s := if_neg (mt State.resumeDone_iff.1 h)

end Moves

/-- Settles O41: each test by its conditions, the work for participants place by place. -/
theorem retentionSequenceBeginsAndEnds : Obligations.RetentionSequenceBeginsAndEnds := by
  intro s
  have hwork : s.participantWork = true ↔
      (∃ d t, (s.sp.access = .hold .wake d ∨ s.sp.access = .hold .full d) ∧ d.target = some t
          ∧ s.retention.participants[t.cs] = true)
        ∨ (∃ d t, s.ap.phase = .wake ∧ s.ap.desc = some d ∧ d.target = some t ∧ s.retention.participants[t.cs] = true)
        ∨ ∃ e ∈ s.queue, s.retention.participants[e.cs] = true := by
    simp only [State.participantWork_iff, State.forParticipant_iff, exists_and_left]
  dsimp only
  rw [← State.mayBegin_iff, ← hwork]
  exact ⟨State.sequenceBegin_of_mayBegin, State.sequenceBegin_of_not, State.sequenceEnd_of_no_work, State.sequenceEnd_of_work,
    State.sequenceEnd_of_not, State.resumeEnd_of_done, State.resumeEnd_of_not⟩

/-! ### ENTER_RETENTION and EXIT_RETENTION -/

section Commands

variable {s : State} {f : Frame} {arg : Byte} {x : State}

/-- The participants are the DRAM chip selects whose slice is ACTIVE or WARMUP (R151). -/
theorem State.chooseParticipants_iff (s : State) (k : Cs) :
    s.chooseParticipants[k] = true ↔
      s.tables.chipsels[k].cls = .dram ∧ (s.slices[k].state = .active ∨ s.slices[k].state = .warmup) := by
  simp [State.chooseParticipants]

theorem exec_enterRetention_done (h : s.AtCommit f [0x40, arg]) (hr : enterReply s = .done x []) (hm : x.mp = s.mp) :
    exec (.enterRetention arg) s = .next (x.withResult f .done []) := by
  show execEnterRetention arg s = _
  rw [execEnterRetention, hr]
  exact commit_done h hm

theorem exec_exitRetention_done (h : s.AtCommit f [0x41, arg]) (hr : exitReply s = .done x []) (hm : x.mp = s.mp) :
    exec (.exitRetention arg) s = .next (x.withResult f .done []) := by
  show execExitRetention arg s = _
  rw [execExitRetention, hr]
  exact commit_done h hm

theorem exec_enterRetention_busy (h : s.AtCommit f [0x40, arg]) (hr : enterReply s = .refuse s .busy 0) :
    exec (.enterRetention arg) s = .next (s.withResult f .busy []) := by
  show execEnterRetention arg s = _
  rw [execEnterRetention, hr]
  exact commit_refuse h _ _

theorem exec_exitRetention_busy (h : s.AtCommit f [0x41, arg]) (hr : exitReply s = .refuse s .busy 0) :
    exec (.exitRetention arg) s = .next (s.withResult f .busy []) := by
  show execExitRetention arg s = _
  rw [execExitRetention, hr]
  exact commit_refuse h _ _

end Commands

section Replies

variable {s : State}

/-- The controller as ENTER_RETENTION leaves it in RUNNING, before the event's tests (R151, R152). -/
def State.startDraining (s : State) : State :=
  s.setRetention { s.retention with state := .draining, begun := false, participants := s.chooseParticipants }

/-- The controller as EXIT_RETENTION leaves it in DRAINING before the sequence begins (R158). -/
def State.stopDraining (s : State) : State :=
  s.setRetention { s.retention with state := .running, participants := Vector.replicate 4 false }

theorem enterReply_of_running (h : s.retention.state = .running) : enterReply s = .done s.startDraining.conclude [] := by
  rw [enterReply, h]
  rfl

theorem enterReply_of_draining (h : s.retention.state = .draining) : enterReply s = .done s [] := by
  rw [enterReply, h]

theorem enterReply_of_retained (h : s.retention.state = .retained) : enterReply s = .done s [] := by
  rw [enterReply, h]

theorem enterReply_of_resuming (h : s.retention.state = .resuming) : enterReply s = .refuse s .busy 0 := by
  rw [enterReply, h]

theorem exitReply_of_running (h : s.retention.state = .running) : exitReply s = .done s [] := by
  rw [exitReply, h]

theorem exitReply_of_draining (h : s.retention.state = .draining) (hb : s.retention.begun = false) :
    exitReply s = .done s.stopDraining [] := by
  rw [exitReply, h, hb]
  rfl

theorem exitReply_of_begun (h : s.retention.state = .draining) (hb : s.retention.begun = true) :
    exitReply s = .refuse s .busy 0 := by
  rw [exitReply, h, hb]
  rfl

theorem exitReply_of_retained (h : s.retention.state = .retained) : exitReply s = .done s.enterResuming.conclude [] := by
  rw [exitReply, h]

theorem exitReply_of_resuming (h : s.retention.state = .resuming) : exitReply s = .done s [] := by
  rw [exitReply, h]

end Replies

/-- Settles O40: the reply of each command in each retention state, put in the frame at its commit point. -/
theorem retentionCommandsFollowTheState : Obligations.RetentionCommandsFollowTheState := by
  intro s f arg
  refine ⟨fun h => ⟨⟨s.chooseParticipants, s.chooseParticipants_iff, fun hf => ?_⟩, fun hf => ?_⟩,
    fun h => ⟨fun hf => ?_, fun hb hf => ?_, fun hb hf => ?_⟩, fun h => ⟨fun hf => ?_, fun hf => ?_⟩,
    fun h => ⟨fun hf => ?_, fun hf => ?_⟩⟩
  · exact exec_enterRetention_done hf (enterReply_of_running h) (State.conclude_mp _)
  · exact exec_exitRetention_done hf (exitReply_of_running h) rfl
  · exact exec_enterRetention_done hf (enterReply_of_draining h) rfl
  · exact exec_exitRetention_done hf (exitReply_of_draining h hb) rfl
  · exact exec_exitRetention_busy hf (exitReply_of_begun h hb)
  · exact exec_enterRetention_done hf (enterReply_of_retained h) rfl
  · exact exec_exitRetention_done hf (exitReply_of_retained h) (State.conclude_mp _)
  · exact exec_enterRetention_busy hf (enterReply_of_resuming h)
  · exact exec_exitRetention_done hf (exitReply_of_resuming h) rfl

end Sys2Proof.Machine

/-! ## The Retention Controller agrees with the slices, the channel and the queue (O60) -/

namespace Sys2Proof.Machine

/-! ### What the controller's state says of one chip select -/

section SoundAt

variable {s : State} {k : Cs}

/-- No participant in RUNNING: its slice is out of self-refresh, and a command is left over for an OFF slice only (R150, R151). -/
theorem State.retentionSoundAt_running (hst : s.retention.state = .running) :
    s.RetentionSoundAt k ↔
      s.retention.participants[k] = false ∧ s.slices[k].state ≠ .self ∧ s.slices[k].state ≠ .waking
        ∧ (s.retention.issued[k] ≠ none → s.slices[k].state = .off) := by
  unfold State.RetentionSoundAt
  rw [hst]
  cases s.retention.participants[k] <;> simp

/-- Out of RUNNING a chip select that does not take part has its slice OFF (R151). -/
theorem State.retentionSoundAt_apart (hp : s.retention.participants[k] = false) (hst : s.retention.state ≠ .running) :
    s.RetentionSoundAt k ↔ s.slices[k].state = .off := by
  unfold State.RetentionSoundAt
  rw [hp]
  cases hs : s.retention.state with
  | running => exact absurd hs hst
  | draining | retained | resuming => rfl

variable (hp : s.retention.participants[k] = true)

include hp

/-- A participant before the sequence begins (R151, R153). -/
theorem State.retentionSoundAt_draining (hst : s.retention.state = .draining) (hb : s.retention.begun = false) :
    s.RetentionSoundAt k ↔
      (s.slices[k].state = .warmup ∨ s.slices[k].state = .active) ∧ s.retention.issued[k] = none := by
  unfold State.RetentionSoundAt
  simp [hp, hst, hb]

/-- A participant once the sequence has begun (R154, R155). -/
theorem State.retentionSoundAt_entering (hst : s.retention.state = .draining) (hb : s.retention.begun = true) :
    s.RetentionSoundAt k ↔
      (s.slices[k].state = .active ∧ s.retention.issued[k] = some .enter)
        ∨ (s.slices[k].state = .self ∧ s.retention.issued[k] = none) := by
  unfold State.RetentionSoundAt
  simp [hp, hst, hb]

/-- A participant in RETAINED (R155, R156). -/
theorem State.retentionSoundAt_retained (hst : s.retention.state = .retained) :
    s.RetentionSoundAt k ↔ s.slices[k].state = .self ∧ s.retention.issued[k] = none := by
  unfold State.RetentionSoundAt
  rw [hp, hst]

/-- A participant in RESUMING (R159). -/
theorem State.retentionSoundAt_resuming (hst : s.retention.state = .resuming) :
    s.RetentionSoundAt k ↔
      (s.slices[k].state = .self ∧ s.retention.issued[k] = some .exit)
        ∨ ((s.slices[k].state = .waking ∨ s.slices[k].state = .active) ∧ s.retention.issued[k] = none) := by
  unfold State.RetentionSoundAt
  rw [hp, hst]

end SoundAt

namespace State.RetentionSoundAt

variable {s s' : State} {k : Cs}

/-- What the controller's state says of a chip select depends on the controller's fields for it and on its slice's state. -/
theorem congr (h : s.RetentionSoundAt k) (hst : s'.retention.state = s.retention.state) (hb : s'.retention.begun = s.retention.begun)
    (hp : s'.retention.participants[k] = s.retention.participants[k]) (hi : s'.retention.issued[k] = s.retention.issued[k])
    (hs : s'.slices[k].state = s.slices[k].state) : s'.RetentionSoundAt k := by
  unfold State.RetentionSoundAt
  rw [hst, hb, hp, hi, hs]
  exact h

/-- A chip select that takes no part may always have its slice OFF (R151). -/
theorem of_off (hp : s.retention.participants[k] = false) (ho : s.slices[k].state = .off) : s.RetentionSoundAt k := by
  by_cases hst : s.retention.state = .running
  · exact (State.retentionSoundAt_running hst).2 ⟨hp, by rw [ho]; nofun, by rw [ho]; nofun, fun _ => ho⟩
  · exact (State.retentionSoundAt_apart hp hst).2 ho

/-- A SELF_ENTER stands for an ACTIVE participant of the sequence, or is left over for an OFF slice (R151, R154). -/
theorem of_enter (h : s.RetentionSoundAt k) (hi : s.retention.issued[k] = some .enter) :
    (s.retention.participants[k] = true ∧ s.retention.state = .draining ∧ s.retention.begun = true ∧ s.slices[k].state = .active)
      ∨ (s.retention.participants[k] = false ∧ s.slices[k].state = .off) := by
  unfold State.RetentionSoundAt at h
  split at h <;> simp_all

/-- A SELF_EXIT stands for a participant in SELF that resumes, or is left over for an OFF slice (R151, R159). -/
theorem of_exit (h : s.RetentionSoundAt k) (hi : s.retention.issued[k] = some .exit) :
    (s.retention.participants[k] = true ∧ s.retention.state = .resuming ∧ s.slices[k].state = .self)
      ∨ (s.retention.participants[k] = false ∧ s.slices[k].state = .off) := by
  unfold State.RetentionSoundAt at h
  split at h <;> simp_all

/-- A WAKING slice belongs to a participant in RESUMING whose SELF_EXIT has been performed (R159). -/
theorem of_waking (h : s.RetentionSoundAt k) (hw : s.slices[k].state = .waking) :
    s.retention.participants[k] = true ∧ s.retention.state = .resuming ∧ s.retention.issued[k] = none := by
  unfold State.RetentionSoundAt at h
  split at h <;> simp_all

/-- A WARMUP slice waits for its warm-up refreshes in RUNNING, or as a participant before the sequence begins; it may enter ACTIVE
(R140, R153). -/
theorem warmed (h : s.RetentionSoundAt k) (hr : s'.retention = s.retention) (hw : s.slices[k].state = .warmup)
    (ha : s'.slices[k].state = .active) : s'.RetentionSoundAt k := by
  unfold State.RetentionSoundAt at h ⊢
  rw [hr]
  split at h <;> simp_all

end State.RetentionSoundAt

end Sys2Proof.Machine

namespace Sys2Proof.Machine

/-! ### The command that the channel performs -/

/-- The transaction on the channel performs the command `c` issued for chip select `k` (R117, R130, R131). -/
def Channel.Performs (ch : Channel) (k : Cs) (c : SelfCmd) : Prop :=
  ∃ t, ch.txn = some (.slice t) ∧ t.cs = k ∧ t.op.command = some c

section Performs

variable {s : State} {ch ch' : Channel} {k : Cs} {c : SelfCmd}

theorem Channel.performs_congr (h : ch'.txn = ch.txn) : ch'.Performs k c ↔ ch.Performs k c := by
  rw [Channel.Performs, h, Channel.Performs]

theorem Channel.not_performs_of_free (h : ch.txn = none) : ¬ ch.Performs k c := by
  rintro ⟨t, ht, -⟩
  cases h.symm.trans ht

theorem Channel.not_performs_of_word {w : WordTxn} (h : ch.txn = some (.word w)) : ¬ ch.Performs k c := by
  rintro ⟨t, ht, -⟩
  cases h.symm.trans ht

theorem Channel.mem_slice_iff {t : SliceTxn} : t ∈ ch.slice ↔ ch.txn = some (.slice t) := by
  unfold Channel.slice
  split
  · next x hx => simp only [hx, Option.mem_def, Option.some.injEq, Txn.slice.injEq]
  · next hno => exact ⟨nofun, fun ht => absurd ht (hno t)⟩

theorem SysPort.mem_fullHeld_iff {p : SysPort} {d : Descriptor} : d ∈ p.fullHeld ↔ p.access = .hold .full d := by
  unfold SysPort.fullHeld
  split
  · next x hx => simp [hx]
  · next hno => simpa using hno d

/-- A slice's transaction that begins performs the command granted, and a refresh none (R130, R131). -/
theorem State.beginSlice_performs {op : SliceOp} {j : Cs} :
    (s.beginSlice k op).channel.Performs j c ↔ k = j ∧ op.command = some c := by
  constructor
  · rintro ⟨t, ht, hcs, hop⟩
    cases ht
    exact ⟨hcs, hop⟩
  · rintro ⟨hcs, hop⟩
    exact ⟨_, rfl, hcs, hop⟩

/-- A CK period leaves the transaction's chip select and kind (R130, R131). -/
theorem State.period_performs : s.period.channel.Performs k c → s.channel.Performs k c := by
  rintro ⟨t, ht, hcs, hop⟩
  obtain ⟨x, hx, hxt⟩ := Option.map_eq_some_iff.1 ht
  cases x with
  | word w => cases hxt
  | slice t' =>
    cases hxt
    exact ⟨t', hx, hcs, hop⟩

theorem State.wordEvent_performs {f : WordTxn → Option WordTxn} : (s.wordEvent f).channel.Performs k c → s.channel.Performs k c := by
  unfold State.wordEvent
  split
  · split
    · exact fun h => absurd h (Channel.not_performs_of_word rfl)
    · exact id
  · exact id

/-- The completion of a self-refresh transaction finds the command it performs (R145, R146). -/
theorem State.endedSlice_performs {op : SliceOp} (h : s.endedSlice op = some k) (hc : op.command = some c) :
    s.channel.Performs k c := by
  unfold State.endedSlice at h
  split at h
  · next t _ htxn =>
    obtain ⟨⟨hop, -⟩, ⟨⟩⟩ := Option.ite_none_right_eq_some.1 h
    exact ⟨t, htxn, rfl, hop ▸ hc⟩
  · cases h

/-- The return to WAKE changes the patience count only (R108). -/
theorem State.rewake_txn (s : State) : s.rewake.channel.txn = s.channel.txn := by
  rw [State.rewake, ← s.rewakeSp_channel]
  unfold State.rewakeAp
  (repeat' split) <;> rfl

/-- A write held in FULL is left in it by a change of the wake condition (R68). -/
theorem State.rewake_full {s : State} {d : Descriptor} (h : s.rewake.sp.access = .hold .full d) : s.sp.access = .hold .full d := by
  rw [State.rewake, State.rewakeAp_sp] at h
  unfold State.rewakeSp at h
  split at h
  · split at h
    · exact h
    · cases h
  · split at h
    · cases h
    · exact h
  · exact h

/-- A command issued for every participant; the other chip selects keep theirs (R154, R159). -/
theorem Retention.issueAll_getElem (r : Retention) (c : SelfCmd) (k : Cs) :
    (r.issueAll c)[k] = if r.participants[k] then some c else r.issued[k] := by
  simp [Retention.issueAll]

end Performs

/-! ### The invariant

`State.RetentionAgrees` is what holds also between a write's placing and the auto-resume of its event; with the two clauses about
RETAINED, `State.Parked` holds whenever the controller's tests come. -/

/-- The controller agrees with every slice and with the channel (R150, R151, R154, R155, R159). -/
structure State.RetentionAgrees (s : State) : Prop where
  slice : ∀ k : Cs, s.RetentionSoundAt k
  begun : s.retention.begun = true → s.retention.state = .draining
  dram : ∀ k : Cs, s.slices[k].state ≠ .off → s.tables.chipsels[k].cls = .dram
  command : ∀ (k : Cs) (c : SelfCmd), s.channel.Performs k c → s.retention.issued[k] = some c

/-- Besides, in RETAINED no queue entry and no write held in FULL is for a participant (R155, R156, R157). -/
structure State.Parked (s : State) : Prop extends State.RetentionAgrees s where
  queue : s.retention.state = .retained → ∀ e ∈ s.queue, s.retention.participants[e.cs] = false
  full : s.retention.state = .retained → ∀ d, s.sp.access = .hold .full d → s.forParticipant d = false

theorem State.parked_iff (s : State) : s.Parked ↔ s.RetentionSound := by
  have hcommand : (∀ (k : Cs) (c : SelfCmd), s.channel.Performs k c → s.retention.issued[k] = some c) ↔
      ∀ t ∈ s.channel.slice, ∀ c ∈ t.op.command, s.retention.issued[t.cs] = some c := by
    refine ⟨fun h t ht c hc => h t.cs c ⟨t, Channel.mem_slice_iff.1 ht, rfl, hc⟩, ?_⟩
    rintro h _ c ⟨t, ht, rfl, hc⟩
    exact h t (Channel.mem_slice_iff.2 ht) c hc
  unfold State.RetentionSound
  simp only [← hcommand, SysPort.mem_fullHeld_iff]
  exact ⟨fun ⟨⟨hslice, hb, hd, hc⟩, hq, hf⟩ => ⟨hslice, hb, hd, hc, fun hr => ⟨hq hr, hf hr⟩⟩,
    fun ⟨hslice, hb, hd, hc, hr⟩ => ⟨⟨hslice, hb, hd, hc⟩, fun h => (hr h).1, fun h => (hr h).2⟩⟩

/-! ### The controller's own moves -/

namespace State.RetentionAgrees

variable {s s' : State}

/-- What the agreement depends on. -/
theorem mono (h : s.RetentionAgrees) (hr : s'.retention = s.retention := by rfl)
    (hs : ∀ k : Cs, s'.slices[k].state = s.slices[k].state := by exact fun _ => rfl)
    (hc : s'.tables.chipsels = s.tables.chipsels := by rfl)
    (hx : ∀ k c, s'.channel.Performs k c → s.channel.Performs k c := by exact fun _ _ => id) : s'.RetentionAgrees where
  slice k := (h.slice k).congr (by rw [hr]) (by rw [hr]) (by rw [hr]) (by rw [hr]) (hs k)
  begun := by
    rw [hr]
    exact h.begun
  dram k hk := by
    rw [hc]
    exact h.dram k (hs k ▸ hk)
  command k c hk := by
    rw [hr]
    exact h.command k c (hx k c hk)

/-- Out of RETAINED the clauses about the queue and the write held in FULL ask nothing. -/
theorem parked (h : s.RetentionAgrees) (hne : s.retention.state ≠ .retained) : s.Parked :=
  ⟨h, fun hr => absurd hr hne, fun hr => absurd hr hne⟩

/-- Out of RUNNING a chip select that takes no part has its slice OFF (R151). -/
theorem off_of_apart (h : s.RetentionAgrees) (hrun : s.retention.state ≠ .running) {k : Cs}
    (hp : s.retention.participants[k] = false) : s.slices[k].state = .off :=
  (State.retentionSoundAt_apart hp hrun).1 (h.slice k)

/-- A command issued for every participant with none issued leaves the channel's command as it is (R154, R159). -/
theorem issueAll_of_performs (h : s.RetentionAgrees)
    (hnone : ∀ k : Cs, s.retention.participants[k] = true → s.retention.issued[k] = none) (new : SelfCmd) {k : Cs} {c : SelfCmd}
    (hx : s.channel.Performs k c) : (s.retention.issueAll new)[k] = some c := by
  have hissued := h.command k c hx
  rw [Retention.issueAll_getElem]
  split
  · next hp => cases (hnone k hp).symm.trans hissued
  · exact hissued

/-- The entry to RESUMING with every participant in SELF (R159). -/
theorem enterResuming (h : s.RetentionAgrees) (hrun : s.retention.state ≠ .running)
    (hself : ∀ k : Cs, s.retention.participants[k] = true → s.slices[k].state = .self ∧ s.retention.issued[k] = none) :
    s.enterResuming.RetentionAgrees where
  slice k := by
    cases hp : s.retention.participants[k] with
    | true =>
      refine (State.retentionSoundAt_resuming (s := s.enterResuming) hp rfl).2 (.inl ⟨(hself k hp).1, ?_⟩)
      exact (s.retention.issueAll_getElem .exit k).trans (if_pos hp)
    | false => exact .of_off hp (h.off_of_apart hrun hp)
  begun := nofun
  dram := h.dram
  command _ _ := h.issueAll_of_performs (fun k hp => (hself k hp).2) .exit

/-- In RETAINED every participant is in SELF with no command issued (R155). -/
theorem self_of_retained (h : s.RetentionAgrees) (hst : s.retention.state = .retained) (k : Cs)
    (hp : s.retention.participants[k] = true) : s.slices[k].state = .self ∧ s.retention.issued[k] = none :=
  (State.retentionSoundAt_retained hp hst).1 (h.slice k)

/-- The resumption from RETAINED (R157, R158). -/
theorem resume (h : s.RetentionAgrees) (hst : s.retention.state = .retained) : s.enterResuming.Parked :=
  (h.enterResuming (by rw [hst]; nofun) (h.self_of_retained hst)).parked nofun

/-- The sequence begins with every participant ACTIVE and no command issued for one (R153, R154). -/
theorem sequenceBegin (h : s.RetentionAgrees) (hb : s.mayBegin = true) : s.sequenceBegin.Parked := by
  obtain ⟨hst, hbegun, -, hactive, -⟩ := State.mayBegin_iff.1 hb
  rw [State.sequenceBegin_of_mayBegin hb]
  have hnone (k : Cs) (hp : s.retention.participants[k] = true) : s.retention.issued[k] = none :=
    ((State.retentionSoundAt_draining hp hst hbegun).1 (h.slice k)).2
  refine parked ⟨fun k => ?_, fun _ => hst, h.dram, fun _ _ => h.issueAll_of_performs hnone .enter⟩ (by simp [hst])
  cases hp : s.retention.participants[k] with
  | true =>
    refine (State.retentionSoundAt_entering (by exact hp) (by exact hst) rfl).2 (.inl ⟨(hactive k hp).1, ?_⟩)
    exact (s.retention.issueAll_getElem .enter k).trans (if_pos hp)
  | false => exact .of_off hp (h.off_of_apart (by rw [hst]; nofun) hp)

/-- The sequence ends with every participant in SELF, its SELF_ENTER performed (R155). -/
theorem sequenceEnd (h : s.RetentionAgrees) (hd : s.SequenceDone) : s.sequenceEnd.Parked := by
  obtain ⟨hst, hbegun, hself⟩ := id hd
  have hrun : s.retention.state ≠ .running := by rw [hst]; nofun
  have hdone (k : Cs) (hp : s.retention.participants[k] = true) : s.slices[k].state = .self ∧ s.retention.issued[k] = none := by
    obtain ⟨hactive, -⟩ | hk := (State.retentionSoundAt_entering hp hst hbegun).1 (h.slice k)
    · cases (hself k hp).symm.trans hactive
    · exact hk
  by_cases hw : s.participantWork = true
  · rw [State.sequenceEnd_of_work hd hw]
    exact (h.enterResuming hrun hdone).parked nofun
  · rw [State.sequenceEnd_of_no_work hd hw]
    rw [State.participantWork_iff] at hw
    refine ⟨⟨fun k => ?_, nofun, h.dram, h.command⟩, fun _ e he => ?_, fun _ d hacc => ?_⟩
    · cases hp : s.retention.participants[k] with
      | true => exact (State.retentionSoundAt_retained (by exact hp) rfl).2 (hdone k hp)
      | false => exact .of_off hp (h.off_of_apart hrun hp)
    · exact Bool.eq_false_iff.2 fun hp => hw (.inr (.inr ⟨e, he, hp⟩))
    · exact Bool.eq_false_iff.2 fun hp => hw (.inl ⟨d, .inr hacc, hp⟩)

/-- The return to RUNNING with every participant's slice up and no command issued for one (R158, R159). -/
theorem toRunning (h : s.RetentionAgrees) (hrun : s.retention.state ≠ .running)
    (hup : ∀ k : Cs, s.retention.participants[k] = true →
      (s.slices[k].state = .warmup ∨ s.slices[k].state = .active) ∧ s.retention.issued[k] = none)
    (hr : s'.retention =
      { s.retention with state := .running, begun := false, participants := Vector.replicate 4 false })
    (hs : s'.slices = s.slices := by rfl) (hc : s'.tables = s.tables := by rfl) (hx : s'.channel = s.channel := by rfl) :
    s'.Parked := by
  have hst : s'.retention.state = .running := by rw [hr]
  refine parked ⟨fun k => (State.retentionSoundAt_running hst).2 ?_, by simp [hr], by simpa only [hs, hc] using h.dram, ?_⟩
    (by rw [hst]; nofun)
  · rw [hr, hs]
    refine ⟨replicate_getElem_fin _ k, ?_⟩
    cases hp : s.retention.participants[k] with
    | true =>
      obtain ⟨hw | ha, hi⟩ := hup k hp
      · exact ⟨by rw [hw]; nofun, by rw [hw]; nofun, fun hne => absurd hi hne⟩
      · exact ⟨by rw [ha]; nofun, by rw [ha]; nofun, fun hne => absurd hi hne⟩
    | false =>
      have ho := h.off_of_apart hrun hp
      exact ⟨by rw [ho]; nofun, by rw [ho]; nofun, fun _ => ho⟩
  · rw [hr, hx]
    exact h.command

/-- RESUMING ends with every participant ACTIVE, its SELF_EXIT performed (R159). -/
theorem resumeEnd (h : s.RetentionAgrees) (hd : s.ResumeDone) : s.resumeEnd.Parked := by
  obtain ⟨hst, hactive⟩ := id hd
  rw [State.resumeEnd_of_done hd]
  refine h.toRunning (by rw [hst]; nofun) (fun k hp => ?_) rfl
  obtain ⟨hself, -⟩ | ⟨-, hi⟩ := (State.retentionSoundAt_resuming hp hst).1 (h.slice k)
  · cases (hactive k hp).symm.trans hself
  · exact ⟨.inr (hactive k hp), hi⟩

/-- The entry to DRAINING: a slice out of OFF is a participant's, and has no command issued (R151). -/
theorem startDraining (h : s.RetentionAgrees) (hst : s.retention.state = .running) : s.startDraining.Parked := by
  refine parked ⟨fun k => ?_, nofun, h.dram, h.command⟩ nofun
  obtain ⟨-, hself, hwaking, hissued⟩ := (State.retentionSoundAt_running hst).1 (h.slice k)
  cases hp : s.chooseParticipants[k] with
  | true =>
    obtain ⟨-, hs⟩ := (s.chooseParticipants_iff k).1 hp
    refine (State.retentionSoundAt_draining (s := s.startDraining) hp rfl rfl).2 ⟨hs.symm, ?_⟩
    by_contra hne
    have ho := hissued hne
    obtain ha | hw := hs
    · cases ho.symm.trans ha
    · cases ho.symm.trans hw
  | false =>
    refine .of_off hp ?_
    by_contra ho
    have hcls := h.dram k ho
    have hno := mt (s.chooseParticipants_iff k).2 (Bool.eq_false_iff.1 hp)
    cases hs : s.slices[k].state with
    | off => exact ho hs
    | warmup => exact hno ⟨hcls, .inr hs⟩
    | active => exact hno ⟨hcls, .inl hs⟩
    | self => exact hself hs
    | waking => exact hwaking hs

/-- The end of DRAINING before the sequence has begun (R158). -/
theorem stopDraining (h : s.RetentionAgrees) (hst : s.retention.state = .draining) (hb : s.retention.begun = false) :
    s.stopDraining.Parked :=
  h.toRunning (by rw [hst]; nofun) (fun k hp => (State.retentionSoundAt_draining hp hst hb).1 (h.slice k))
    (by simp only [State.stopDraining, State.setRetention_retention, hb])

theorem autoResume (h : s.RetentionAgrees) (d : Descriptor) : (s.autoResume d).RetentionAgrees := by
  unfold State.autoResume
  split
  · next hd => exact (h.resume (eq_of_beq (Bool.and_eq_true_iff.1 hd).1)).toRetentionAgrees
  · exact h

end State.RetentionAgrees

end Sys2Proof.Machine

namespace Sys2Proof.Machine

/-! ### One lemma per operation of the state -/

theorem getElem_set_fin_self {α : Type} {n : Nat} (v : Vector α n) (i : Fin n) (x : α) : (v.set i x)[i] = x :=
  Vector.getElem_set_self i.isLt

theorem getElem_set_fin_ne {α : Type} {n : Nat} (v : Vector α n) {i j : Fin n} (x : α) (h : j ≠ i) : (v.set i x)[j] = v[j] :=
  Vector.getElem_set_ne i.isLt j.isLt fun hij => h (Fin.ext hij.symm)

/-- A REFRESH completion leaves a slice's state, or takes WARMUP to ACTIVE (R140). -/
theorem Slice.refreshed_state (sl : Slice) (c : ChipSel) :
    (sl.refreshed c).state = sl.state ∨ sl.state = .warmup ∧ (sl.refreshed c).state = .active := by
  unfold Slice.refreshed
  split
  · exact .inl rfl
  · next hw =>
    split
    · exact .inr ⟨hw, rfl⟩
    · exact .inl rfl
  · exact .inl rfl

/-- The controller with its own fields for chip select `k` written back. -/
theorem Retention.set_self (r : Retention) (k : Cs) :
    { r with participants := r.participants.set k r.participants[k], issued := r.issued.set k r.issued[k] } = r := by
  simp

namespace State.Parked

variable {s s' : State}

theorem mono (h : s.Parked) (hr : s'.retention = s.retention := by rfl)
    (hs : ∀ k : Cs, s'.slices[k].state = s.slices[k].state := by exact fun _ => rfl)
    (hc : s'.tables.chipsels = s.tables.chipsels := by rfl)
    (hx : ∀ k c, s'.channel.Performs k c → s.channel.Performs k c := by exact fun _ _ => id)
    (hq : ∀ e ∈ s'.queue, ∃ x ∈ s.queue, x.cs = e.cs := by exact fun e he => ⟨e, he, rfl⟩)
    (hf : ∀ d, s'.sp.access = .hold .full d → s.sp.access = .hold .full d := by exact fun _ => id) : s'.Parked where
  toRetentionAgrees := h.toRetentionAgrees.mono hr hs hc hx
  queue hst e he := by
    obtain ⟨x, hx, hcs⟩ := hq e he
    simpa only [hr, hcs] using h.queue (hr ▸ hst) x hx
  full hst d hd := by
    rw [State.forParticipant, hr]
    exact h.full (hr ▸ hst) d (hf d hd)

theorem of_sameUnits (h : s.Parked) (hu : s.SameUnits s') : s'.Parked := by
  obtain ⟨hc, hq, hsp, -, hch, hs, hr⟩ := hu
  exact h.mono hr (by simp [hs]) hc (by simp [hch]) (fun e he => ⟨e, hq ▸ he, rfl⟩) (by simp [hsp])

theorem endLock (h : s.Parked) : s.endLock.Parked := h.mono

theorem deliver (h : s.Parked) (o : Occurrence) : (s.deliver o).Parked := h.mono

theorem setTables (h : s.Parked) {x : Tables} (hc : x.chipsels = s.tables.chipsels) : (s.setTables x).Parked := h.mono (hc := hc)

theorem setAccess (h : s.Parked) {a : SpAccess} (ha : ∀ d, a ≠ .hold .full d) : (s.setAccess a).Parked :=
  h.mono (hf := fun d hd => absurd hd (ha d))

theorem setAp (h : s.Parked) (a : AuxPort) : (s.setAp a).Parked := h.mono

theorem setQueue (h : s.Parked) {q : List Entry} (hq : ∀ e ∈ q, ∃ x ∈ s.queue, x.cs = e.cs) : (s.setQueue q).Parked :=
  h.mono (hq := hq)

/-- The channel becomes FREE and performs no command (R110). -/
theorem free (h : s.Parked) : (s.setTxn none).Parked :=
  h.mono (hx := fun _ _ hx => absurd hx (Channel.not_performs_of_free rfl))

/-- A change of one chip select's slice and descriptor, of its part in the set, which it may leave, and of the command issued for it. -/
theorem replace (h : s.Parked) (k : Cs) {x : Slice} {c : ChipSel} {part : Bool} {cmd : Option SelfCmd}
    (hs : s'.slices = s.slices.set k x) (hc : s'.tables.chipsels = s.tables.chipsels.set k c)
    (hr : s'.retention =
      { s.retention with participants := s.retention.participants.set k part, issued := s.retention.issued.set k cmd })
    (hq : s'.queue = s.queue) (hsp : s'.sp = s.sp) (hat : s'.RetentionSoundAt k) (hdram : x.state ≠ .off → c.cls = .dram)
    (hpart : part = true → s.retention.participants[k] = true)
    (hx : ∀ j c, s'.channel.Performs j c → s'.retention.issued[j] = some c) : s'.Parked := by
  have hst : s'.retention.state = s.retention.state := by rw [hr]
  have hleft (j : Cs) (hj : s.retention.participants[j] = false) : s'.retention.participants[j] = false := by
    by_cases hjk : j = k
    · subst hjk
      rw [hr, getElem_set_fin_self]
      exact Bool.eq_false_iff.2 fun hp => Bool.eq_false_iff.1 hj (hpart hp)
    · rwa [hr, getElem_set_fin_ne _ _ hjk]
  refine ⟨⟨fun j => ?_, by simpa only [hr] using h.begun, fun j => ?_, hx⟩, fun hret e he => ?_, fun hret d hd => ?_⟩
  · by_cases hjk : j = k
    · exact hjk ▸ hat
    · refine (h.slice j).congr hst (by rw [hr]) ?_ ?_ ?_
      · rw [hr, getElem_set_fin_ne _ _ hjk]
      · rw [hr, getElem_set_fin_ne _ _ hjk]
      · rw [hs, getElem_set_fin_ne _ _ hjk]
  · rw [hs, hc]
    by_cases hjk : j = k
    · subst hjk
      rwa [getElem_set_fin_self, getElem_set_fin_self]
    · rw [getElem_set_fin_ne _ _ hjk, getElem_set_fin_ne _ _ hjk]
      exact h.dram j
  · rw [hst] at hret
    exact hleft _ (h.queue hret e (hq ▸ he))
  · rw [hst] at hret
    rw [hsp] at hd
    have hout := h.full hret d hd
    rw [← Bool.not_eq_true, State.forParticipant_iff] at hout ⊢
    rintro ⟨t, ht, hp⟩
    refine hout ⟨t, ht, Bool.not_eq_false _ ▸ fun hno => ?_⟩
    cases (hleft _ hno).symm.trans hp

/-- A slice that leaves OFF for nothing, in a state that the controller allows. -/
theorem setSlice (h : s.Parked) (k : Cs) {x : Slice} (hat : (s.setSlice k x).RetentionSoundAt k)
    (hoff : x.state ≠ .off → s.slices[k].state ≠ .off) : (s.setSlice k x).Parked :=
  h.replace k rfl (Vector.set_getElem_self _).symm (s.retention.set_self k).symm rfl rfl hat (fun hx => h.dram k (hoff hx)) id
    h.command

/-- A slice that keeps its state. -/
theorem setTimers (h : s.Parked) (k : Cs) {x : Slice} (hx : x.state = s.slices[k].state) : (s.setSlice k x).Parked :=
  h.setSlice k ((h.slice k).congr rfl rfl rfl rfl (by rw [State.setSlice_slices, getElem_set_fin_self, hx])) fun ho => hx ▸ ho

/-- A REFRESH completion leaves the slice's state or takes a WARMUP slice to ACTIVE (R140). -/
theorem refresh (h : s.Parked) (k : Cs) : (s.setSlice k (s.slices[k].refreshed s.tables.chipsels[k])).Parked := by
  obtain hsame | ⟨hw, ha⟩ := s.slices[k].refreshed_state s.tables.chipsels[k]
  · exact h.setTimers k hsame
  · refine h.setSlice k ((h.slice k).warmed rfl hw ?_) fun _ => by rw [hw]; nofun
    rw [State.setSlice_slices, getElem_set_fin_self, ha]

/-- The exit timer's expiry takes a participant's WAKING slice to ACTIVE (R147, R159). -/
theorem wake (h : s.Parked) {k : Cs} (hw : s.slices[k].state = .waking) :
    (s.setSlice k (s.slices[k].toActive s.tables.chipsels[k])).Parked := by
  obtain ⟨hp, hst, hi⟩ := (h.slice k).of_waking hw
  refine h.setSlice k ?_ fun _ => by rw [hw]; nofun
  refine (State.retentionSoundAt_resuming (by exact hp) (by exact hst)).2 (.inr ⟨.inr ?_, hi⟩)
  rw [State.setSlice_slices, getElem_set_fin_self]
  rfl

/-- The completion of a self-refresh transaction of `k`, with the command issued after it. -/
theorem completeSlice (h : s.Parked) (k : Cs) {x : Slice} {cmd : Option SelfCmd}
    (hat : (((s.setTxn none).setSlice k x).setRetention
      { s.retention with issued := s.retention.issued.set k cmd }).RetentionSoundAt k)
    (hoff : x.state ≠ .off → s.slices[k].state ≠ .off) :
    (((s.setTxn none).setSlice k x).setRetention { s.retention with issued := s.retention.issued.set k cmd }).Parked :=
  h.replace k (cmd := cmd) rfl (Vector.set_getElem_self _).symm (by simp) rfl rfl hat (fun hx => h.dram k (hoff hx)) id
    fun _ _ hx => absurd hx (Channel.not_performs_of_free rfl)

/-- A SELF_ENTER completion takes a participant's ACTIVE slice to SELF, and follows an OFF slice's with a SELF_EXIT (R145, R151,
R155). -/
theorem enterSelf (h : s.Parked) {k : Cs} (hk : s.endedSlice .selfEnter = some k) :
    (((s.setTxn none).setSlice k s.slices[k].entered).setRetention
      { s.retention with issued := s.retention.issued.set k (afterSelfEnter s.slices[k]) }).Parked := by
  obtain ⟨hp, hst, hb, ha⟩ | ⟨hp, ho⟩ := (h.slice k).of_enter (h.command k _ (State.endedSlice_performs hk rfl))
  · refine h.completeSlice k ?_ fun _ => by rw [ha]; nofun
    refine (State.retentionSoundAt_entering (by exact hp) (by exact hst) (by exact hb)).2 (.inr ⟨?_, ?_⟩)
    · rw [State.setRetention_slices, State.setSlice_slices, getElem_set_fin_self, Slice.entered_of_active ha]
    · rw [State.setRetention_retention, getElem_set_fin_self, afterSelfEnter_of_active ha]
  · rw [Slice.entered_of_off ho]
    exact h.completeSlice k (.of_off hp (by rw [State.setRetention_slices, State.setSlice_slices, getElem_set_fin_self, ho])) id

/-- A SELF_EXIT completion takes a participant's SELF slice to WAKING, and leaves an OFF slice (R146, R151, R159). -/
theorem exitSelf (h : s.Parked) {k : Cs} (hk : s.endedSlice .selfExit = some k) :
    (((s.setTxn none).setSlice k (s.slices[k].exited s.tables.chipsels[k])).setRetention
      { s.retention with issued := s.retention.issued.set k none }).Parked := by
  obtain ⟨hp, hst, hs⟩ | ⟨hp, ho⟩ := (h.slice k).of_exit (h.command k _ (State.endedSlice_performs hk rfl))
  · refine h.completeSlice k ?_ fun _ => by rw [hs]; nofun
    refine (State.retentionSoundAt_resuming (by exact hp) (by exact hst)).2 (.inr ⟨.inl ?_, getElem_set_fin_self ..⟩)
    rw [State.setRetention_slices, State.setSlice_slices, getElem_set_fin_self, Slice.exited_of_self hs]
  · rw [Slice.exited_of_off ho]
    exact h.completeSlice k (.of_off hp (by rw [State.setRetention_slices, State.setSlice_slices, getElem_set_fin_self, ho])) id

/-! #### The controller's tests and the Arbiter -/

theorem rewake (h : s.Parked) : s.rewake.Parked :=
  h.mono (by simp) (by simp) (by simp) (fun _ _ => (Channel.performs_congr s.rewake_txn).1) (fun e he => ⟨e, by simpa using he, rfl⟩)
    fun _ => State.rewake_full

theorem sequenceBegin (h : s.Parked) : s.sequenceBegin.Parked := by
  by_cases hb : s.mayBegin = true
  · exact h.toRetentionAgrees.sequenceBegin hb
  · rwa [State.sequenceBegin_of_not hb]

theorem sequenceEnd (h : s.Parked) : s.sequenceEnd.Parked := by
  by_cases hd : s.SequenceDone
  · exact h.toRetentionAgrees.sequenceEnd hd
  · rwa [State.sequenceEnd_of_not hd]

theorem resumeEnd (h : s.Parked) : s.resumeEnd.Parked := by
  by_cases hd : s.ResumeDone
  · exact h.toRetentionAgrees.resumeEnd hd
  · rwa [State.resumeEnd_of_not hd]

theorem settle (h : s.Parked) : s.settle.Parked := h.rewake.sequenceBegin.rewake.sequenceEnd.resumeEnd.rewake

/-- A slice's transaction begins, for a command only when it is issued (R103, R130, R131). -/
theorem beginSlice (h : s.Parked) (k : Cs) {op : SliceOp} (hop : ∀ c, op.command = some c → s.retention.issued[k] = some c) :
    (s.beginSlice k op).Parked where
  toRetentionAgrees := ⟨h.slice, h.begun, h.dram, fun j c hx => by
    obtain ⟨rfl, hc⟩ := State.beginSlice_performs.1 hx
    exact hop c hc⟩
  queue := h.queue
  full := h.full

/-- A word on the channel performs no command. -/
theorem beginWord (h : s.Parked) (x : WordHolder) (dir : Direction) (t : Target) (n : Nat) (m : Lanes) (data : List BusWord) :
    (s.beginWord x dir t n m data).Parked :=
  h.mono (hx := fun _ _ hx => absurd hx (Channel.not_performs_of_word rfl))

theorem grant (h : s.Parked) {l : Level} {r : Request} (hr : (l, r) ∈ s.requests) : (s.grant r).Parked := by
  match r with
  | .refresh k => exact h.beginSlice k nofun
  | .command k .enter =>
    obtain ⟨-, hi, -⟩ := State.mem_requests_command.1 hr
    exact (h.setTimers k (by rfl)).beginSlice k fun c hc => Option.some.inj hc ▸ hi
  | .command k .exit =>
    obtain ⟨-, hi, -⟩ := State.mem_requests_command.1 hr
    exact h.beginSlice k fun c hc => Option.some.inj hc ▸ hi
  | .ap d t =>
    exact (h.mono (s' := (s.setApPhase .burst).setChannel { s.channel with patience := 0 })).beginWord ..
  | .sp d t =>
    exact ((h.setAccess (a := .channel false d) fun _ => nofun).mono
      (s' := (s.setAccess (.channel false d)).setChannel { s.channel with patience := s.patienceAfterSp })).beginWord ..
  | .head e => exact (h.setQueue fun _ => markHead_mem_cs).beginWord ..

theorem decide (h : s.Parked) : s.decide.Parked := by
  cases hc : s.channel.txn with
  | some x =>
    rw [s.decide_of_busy x hc]
    exact h
  | none =>
    obtain ⟨-, heq⟩ | ⟨l, r, hmem, -, heq⟩ := State.decide_of_free hc
    · rw [heq]
      exact h
    · rw [heq]
      exact h.grant hmem

theorem conclude (h : s.Parked) : s.conclude.Parked := h.settle.decide

theorem autoResume (h : s.Parked) (d : Descriptor) : (s.autoResume d).Parked := by
  unfold State.autoResume
  split
  · next hd => exact h.toRetentionAgrees.resume (eq_of_beq (Bool.and_eq_true_iff.1 hd).1)
  · exact h

/-! #### The System Port -/

theorem spWakeCheck (h : s.Parked) (d : Descriptor) : (s.spWakeCheck d).Parked := h.setAccess (by split <;> simp)

/-- In RETAINED a write that is for no participant may be queued or held in FULL (R36 to R38, R156). -/
theorem offerPosted (h : s.Parked) {d : Descriptor} {t : Target} (ht : d.target = some t)
    (hd : s.retention.state = .retained → s.forParticipant d = false) : (s.offerPosted d t).Parked := by
  unfold State.offerPosted
  split
  · next q hq =>
    refine ⟨h.toRetentionAgrees.mono, fun hst e he => ?_, fun _ _ => nofun⟩
    show s.retention.participants[e.cs] = false
    obtain ⟨x, hx, hcs⟩ | hcs := offer_mem_cs hq he
    · simpa only [hcs] using h.queue hst x hx
    · have hout := hd hst
      rw [State.forParticipant, ht] at hout
      simpa only [hcs, newEntry] using hout
  · refine ⟨h.toRetentionAgrees.mono, h.queue, fun hst x hx => ?_⟩
    cases hx
    exact hd hst

theorem placeSp (h : s.Parked) {d : Descriptor} (hd : s.retention.state = .retained → s.forParticipant d = false) :
    (s.placeSp d).Parked := by
  unfold State.placeSp
  split
  · next t _ ht => exact h.offerPosted ht hd
  · split
    · exact h.setAccess fun _ => nofun
    · exact h.spWakeCheck d

/-- In RETAINED an access to a participant resumes the controller in the event that places it (R157). -/
theorem placeSp_autoResume (h : s.Parked) (d : Descriptor) : ((s.placeSp d).autoResume d).Parked := by
  by_cases hd : s.retention.state = .retained ∧ s.forParticipant d = true
  · have hplaced : (s.placeSp d).RetentionAgrees := h.toRetentionAgrees.mono (by simp) (by simp) (by simp) (by simp)
    have hst : (s.placeSp d).retention.state = .retained := by simp [hd.1]
    have heq : (s.placeSp d).autoResume d = (s.placeSp d).enterResuming :=
      if_pos (by simpa [State.forParticipant] using hd)
    rw [heq]
    exact hplaced.resume hst
  · exact (h.placeSp fun hst => Bool.eq_false_iff.2 fun hp => hd ⟨hst, hp⟩).autoResume d

theorem handOnSp (h : s.Parked) (d : Descriptor) : (s.handOnSp d).Parked := by
  unfold State.handOnSp
  split
  · exact h.setAccess fun _ => nofun
  · exact h.placeSp_autoResume d

theorem presentSp (h : s.Parked) (t : SpTerminals) : (s.presentSp t).Parked := by
  rw [State.presentSp_eq]
  split
  · exact (h.endLock.deliver _).setAccess fun _ => nofun
  · exact (h.setTables (Tables.capture_chipsels ..)).handOnSp _
  · exact (h.endLock.setTables (Tables.capture_chipsels ..)).handOnSp _

theorem completeSp (h : s.Parked) (w : WordTxn) (withdrawn : Bool) (d : Descriptor) (t : SpTerminals) :
    (s.completeSp w withdrawn d t).Parked := by
  have noted : (s.noteTimeout w d).Parked := by
    unfold State.noteTimeout
    split
    · exact h.deliver _
    · exact h
  have left (p : SysPort) (hp : ∀ x, p.access ≠ .hold .full x) : ((s.noteTimeout w d).setSp p).Parked :=
    noted.mono (hf := fun x hx => absurd hx (hp x))
  cases withdrawn with
  | true =>
    rw [State.completeSp_of_withdrawn]
    split
    · exact (left (s.sp.dropped w d t.lock) fun _ => nofun).presentSp t
    · exact left (s.sp.dropped w d t.lock) fun _ => nofun
  | false =>
    rw [State.completeSp_of_not_withdrawn]
    refine left _ fun x => ?_
    unfold answerOf
    split <;> simp

theorem endAccess (h : s.Parked) : s.endAccess.Parked := by
  unfold State.endAccess
  split
  · exact h
  · exact h.setAccess fun _ => nofun
  · dsimp only
    split
    · exact ((h.deliver _).endLock.setAccess (a := .idle) fun _ => nofun).decide
    · exact ((h.deliver _).setAccess (a := .idle) fun _ => nofun).decide
  · exact h.setAccess fun _ => nofun
  · exact h.mono

/-! #### The Auxiliary Port -/

theorem takeBeat (h : s.Parked) (b : BusWord) : (s.takeBeat b).Parked := by
  unfold State.takeBeat
  split
  · exact h.setAp _
  · exact h

theorem presentAp (h : s.Parked) (t : ApTerminals) : (s.presentAp t).Parked := by
  cases hf : (s.apDecoded t).faulted with
  | true =>
    obtain ⟨k, hk⟩ := (Descriptor.faulted_iff _).1 hf
    rw [State.presentAp_of_fault hk]
    exact (h.setAp _).deliver _
  | false =>
    obtain ⟨tg, (ht : (s.apDecoded t).target = some tg)⟩ := Tables.decode_target_of_not_faulted _ _ _ hf
    obtain ⟨p, hp⟩ := s.exists_apPlaced tg (barrierOf s.queue tg (apWords t))
    rw [State.presentAp_of_target hf ht hp]
    have hresumed := (h.setAp (requestedPort p (s.apDecoded t) (barrierOf s.queue tg (apWords t))
      (if t.wr = true then t.beat.toList else []))).autoResume (s.apDecoded t)
    rwa [State.autoResume_of_target _ _ tg ht] at hresumed

theorem releaseAxReq (h : s.Parked) : s.releaseAxReq.Parked :=
  h.mono (by simp) (by simp) (by simp) (fun _ _ => (Channel.performs_congr s.releaseAxReq_txn).1)
    (fun e he => ⟨e, by simpa using he, rfl⟩) (by simp)

theorem completeAp (h : s.Parked) (w : WordTxn) : (s.completeAp w).Parked :=
  h.mono (by simp) (by simp) (by simp) (by simp) (fun e he => ⟨e, by simpa using he, rfl⟩) (by simp)

/-! #### Removal of the head -/

/-- The write that was held in FULL is for no participant when it is offered again in RETAINED (R38, R156). -/
theorem releaseSp (h : s.Parked) : s.releaseSp.Parked := by
  unfold State.releaseSp
  split
  · next d hacc =>
    split
    · next t ht => exact h.offerPosted ht fun hst => h.full hst d hacc
    · exact h
  · split
    · exact h
    · exact (h.spWakeCheck _).autoResume _
  · exact h

theorem releaseAp (h : s.Parked) : s.releaseAp.Parked := by
  unfold State.releaseAp
  split
  · next d _ _ =>
    dsimp only
    split
    · exact ((h.setAp _).mono (s' := State.apWakeCheck _ d)).autoResume d
    · exact h.setAp _
  · exact h

theorem removeHead (h : s.Parked) {e : Entry} {rest : List Entry} (hq : s.queue = e :: rest) (timedOut : Bool) :
    (s.removeHead e rest timedOut).Parked := by
  have hrest : (s.setQueue rest).Parked := h.setQueue fun x hx => ⟨x, hq ▸ List.mem_cons_of_mem _ hx, rfl⟩
  unfold State.removeHead
  dsimp only
  split
  · exact (hrest.deliver _).releaseSp.releaseAp
  · exact hrest.releaseSp.releaseAp

/-! #### The Channel Sequencer, commits and time -/

theorem wordEvent (h : s.Parked) (f : WordTxn → Option WordTxn) : (s.wordEvent f).Parked :=
  h.mono (by simp) (by simp) (by simp) (fun _ _ => State.wordEvent_performs) (fun e he => ⟨e, by simpa using he, rfl⟩) (by simp)

theorem commit (h : s.Parked) (bytes : List Byte) {r : Reply} (hr : r.state.Parked) : (s.commit bytes r).Parked := by
  unfold State.commit
  split
  · exact hr.mono
  · exact h

theorem idleStep (h : s.Parked) : s.idleStep.Parked := by
  unfold State.idleStep
  split
  · exact h
  · exact h.mono (hs := fun k => by simp [State.period, Slice.period]) (hx := fun _ _ => State.period_performs)

end State.Parked

end Sys2Proof.Machine

namespace Sys2Proof.Machine

/-! ### Every command keeps the invariant -/

section Replies

variable {s : State}

/-- A chip select that goes to OFF leaves the participant set (R121, R143, R151). -/
theorem State.Parked.describe_off (h : s.Parked) (k : Cs) (c : ChipSel) :
    (((s.setTables { s.tables with chipsels := s.tables.chipsels.set k c }).setSlice k s.slices[k].toOff).depart k).Parked := by
  refine h.replace k (part := false) (cmd := s.retention.issued[k]) rfl rfl ?_ rfl rfl (.of_off ?_ ?_) (absurd rfl) nofun h.command
  · rw [Fin.getElem_fin s.retention.issued, Vector.set_getElem_self]
    rfl
  · exact getElem_set_fin_self ..
  · rw [State.depart_slices, State.setSlice_slices, getElem_set_fin_self]
    rfl

/-- A descriptor that is taken: a slice enters WARMUP in RUNNING only and with no command issued, and goes to OFF out of the participant
set; else it stays as it is, of class DRAM when it is out of OFF (R119, R121, R122). -/
theorem State.Parked.describe (h : s.Parked) {k : Cs} {c : ChipSel} (hc : s.chipselCheck k c = none) :
    ((s.setTables { s.tables with chipsels := s.tables.chipsels.set k c }).sliceEffects k s.tables.chipsels[k] c).Parked := by
  obtain ⟨⟨-, hfit⟩, hno⟩ := State.fits_of_chipselCheck hc
  by_cases hleft : s.tables.chipsels[k].cls = .dram ∧ c.cls ≠ .dram
  · rw [State.sliceEffects_of_class_left hleft]
    exact h.describe_off k c
  · cases ho : s.tables.chipsels[k].enable <;> cases hn : c.enable
    case false.true =>
      obtain ⟨hrun, hnone⟩ : s.retention.state = .running ∧ s.retention.issued[k] = none := by
        rw [State.RefusesChange, State.enableChangeRefused_iff] at hno
        by_contra hbad
        refine hno (.inr (.inl ⟨ho, hn, ?_⟩))
        by_cases hrun : s.retention.state = .running
        · exact .inr (.inl fun hnone => hbad ⟨hrun, hnone⟩)
        · exact .inl hrun
      obtain ⟨hp, -⟩ := (State.retentionSoundAt_running hrun).1 (h.slice k)
      rw [State.sliceEffects_of_enable hleft ho hn]
      refine h.replace k rfl rfl (s.retention.set_self k).symm rfl rfl
        ((State.retentionSoundAt_running (by exact hrun)).2 ⟨hp, ?_⟩) (fun _ => hfit hn) id h.command
      rw [State.setSlice_slices, getElem_set_fin_self]
      exact ⟨nofun, nofun, fun hne => absurd hnone hne⟩
    case true.false =>
      rw [State.sliceEffects_of_disable hleft ho hn]
      exact h.describe_off k c
    all_goals
      rw [State.sliceEffects_of_enable_kept hleft (ho.trans hn.symm)]
      exact h.replace k (Vector.set_getElem_self _).symm rfl (s.retention.set_self k).symm rfl rfl (h.slice k)
        (fun hoff => Classical.byContradiction fun hcls => hleft ⟨h.dram k hoff, hcls⟩) id h.command

theorem chipselReply_keeps_parked (h : s.Parked) (k : Cs) (c : ChipSel) : (chipselReply s k c).state.Parked := by
  unfold chipselReply
  split
  · exact h
  · next hc =>
    rw [Reply.done_state]
    exact (h.describe hc).conclude

theorem enterReply_keeps_parked (h : s.Parked) : (enterReply s).state.Parked := by
  cases hst : s.retention.state with
  | running =>
    rw [enterReply_of_running hst, Reply.done_state]
    exact (h.toRetentionAgrees.startDraining hst).conclude
  | draining => rwa [enterReply_of_draining hst]
  | retained => rwa [enterReply_of_retained hst]
  | resuming => rwa [enterReply_of_resuming hst]

theorem exitReply_keeps_parked (h : s.Parked) : (exitReply s).state.Parked := by
  cases hst : s.retention.state with
  | running => rwa [exitReply_of_running hst]
  | draining =>
    cases hb : s.retention.begun with
    | false =>
      rw [exitReply_of_draining hst hb]
      exact h.toRetentionAgrees.stopDraining hst hb
    | true => rwa [exitReply_of_begun hst hb]
  | retained =>
    rw [exitReply_of_retained hst, Reply.done_state]
    exact (h.toRetentionAgrees.resume hst).conclude
  | resuming => rwa [exitReply_of_resuming hst]

/-- CONFIG_RESET is taken in RUNNING with the channel FREE, and puts every slice in OFF (R176). -/
theorem configResetReply_keeps_parked (h : s.Parked) : (configResetReply s).state.Parked := by
  unfold configResetReply
  split
  · next hquiet =>
    simp only [State.quiescent, Bool.and_eq_true, Option.isNone_iff_eq_none, beq_iff_eq] at hquiet
    obtain ⟨⟨⟨⟨⟨-, hfree⟩, -⟩, -⟩, hrun⟩, -⟩ := hquiet
    have hoff (k : Cs) : (Vector.replicate 4 Slice.reset)[k].state = .off := by
      rw [replicate_getElem_fin]
      rfl
    rw [Reply.done_state]
    refine State.RetentionAgrees.parked ⟨fun k => .of_off ?_ (hoff k), h.begun, fun k hk => absurd (hoff k) hk,
      fun _ _ hx => absurd hx (Channel.not_performs_of_free hfree)⟩ ?_
    · obtain ⟨hp, -⟩ := (State.retentionSoundAt_running hrun).1 (h.slice k)
      exact hp
    · rw [State.setSlices_retention, State.setTables_retention, hrun]
      nofun
  · exact h

end Replies

/-- Every command keeps the invariant: it ends in the controller's tests and a decision, or changes nothing that the invariant reads
but for what the lemma of its operation says. -/
theorem exec_keeps_parked (c : Instr) {s s' : State} (h : s.Parked) (hx : exec c s = .next s') : s'.Parked := by
  have hunits (hc : Instr.keepsUnits c = true) := exec_keeps_units hc hx
  cases c <;> injection hx with hx <;> subst hx
  case spPresentation t =>
    split
    · exact (h.presentSp t).decide
    · exact h
  case spAccessEnd =>
    split
    · exact h
    · exact h.endAccess
  case lockNRelease =>
    split
    · exact h
    · exact h.endLock.decide
  case deferredPresentation =>
    split
    · exact h
    · split
      · exact h.mono
      · exact h
  case spReleaseSeen =>
    split
    · exact h
    · exact h.mono
  case apPresentation t =>
    split
    · exact (h.presentAp t).decide
    · split
      · exact h
      · exact h.setAp _
  case writeBeat d =>
    split
    · exact (h.takeBeat d).decide
    · exact h
  case axReqRelease =>
    split
    · exact h
    · exact h.releaseAxReq
  case closingPeriodEnd =>
    split
    · exact h
    · split
      · exact h.setAp _
      · exact h
  case phaseEnd | mrdyReady | readyLimitExceeded => exact h.wordEvent _
  case spTransactionCompletion t =>
    split
    · split
      · exact (h.free.completeSp _ _ _ t).conclude
      · exact h
    · exact h
  case drainCompletion =>
    split
    · next w e rest _ hq =>
      split
      · exact (h.free.removeHead hq w.timedOut).conclude
      · exact h
    · exact h
  case burstWordEnd =>
    split
    · split
      · exact h.mono (hx := fun _ _ hx => absurd hx (Channel.not_performs_of_word rfl))
      · exact h
    · exact h
  case burstCompletion =>
    split
    · split
      · exact (h.free.completeAp _).conclude
      · exact h
    · exact h
  case refreshCompletion =>
    split
    · exact (h.free.refresh _).conclude
    · exact h
  case selfEnterCompletion =>
    split
    · next k hk => exact (h.enterSelf hk).conclude
    · exact h
  case selfExitCompletion =>
    split
    · next k hk => exact (h.exitSelf hk).conclude
    · exact h
  case intervalExpiry k =>
    dsimp only
    split
    · split
      · exact (h.setTimers k (by rfl)).decide
      · exact ((h.setTimers k (by rfl)).deliver _).decide
    · exact h
  case exitTimerExpiry k =>
    dsimp only
    split
    · next hk =>
      obtain ⟨-, hwaking, -⟩ := hk
      exact (h.wake hwaking).conclude
    · exact h
  case frameStart | frameEnd | unknownOpcode | getSummary | readItem | writeRegion | writeProfile | writeBankwin
      | writeQueueWatermark | writeAlertEnables | popFault | peekFault | clearCauses => exact h.of_sameUnits (hunits rfl)
  case writeChipsel k p => exact h.commit _ (chipselReply_keeps_parked h k _)
  case enterRetention => exact h.commit _ (enterReply_keeps_parked h)
  case exitRetention => exact h.commit _ (exitReply_keeps_parked h)
  case configReset => exact h.commit _ (configResetReply_keeps_parked h)
  case pinReset => exact (State.reset.parked_iff.2 State.reset_retentionSound).mono
  case resetRelease =>
    split
    · exact h.mono
    · exact h

theorem step_keeps_parked {s s' : State} (h : s.Parked) (hx : step s = .next s') : s'.Parked := by
  unfold step at hx
  split at hx
  · cases hx
    exact h.idleStep
  · next c rest _ =>
    have hrest : ({ s with pending := rest } : State).Parked := h.mono
    exact exec_keeps_parked c hrest hx

/-- In RETAINED every slice is OFF or SELF (R156). -/
theorem State.RetentionAgrees.off_or_self {s : State} (h : s.RetentionAgrees) (hst : s.retention.state = .retained) (k : Cs) :
    s.slices[k].state = .off ∨ s.slices[k].state = .self := by
  cases hp : s.retention.participants[k] with
  | true => exact .inr (h.self_of_retained hst k hp).1
  | false => exact .inl (h.off_of_apart (by rw [hst]; nofun) hp)

/-- Settles O60: the invariant as `State.Parked`, kept by the idle step and by every command; in RETAINED a slice is in SELF only for a
participant, which no queue entry is for. -/
theorem retainedPartIsParked : Obligations.RetainedPartIsParked := by
  refine ⟨fun s s' h hx => ?_, fun s h hst => ?_⟩
  · rw [← State.parked_iff] at h ⊢
    exact step_keeps_parked h hx
  · rw [← State.parked_iff] at h
    refine ⟨fun k => ?_, fun e he => ?_⟩
    · obtain ho | ho := h.off_or_self hst k <;> rw [ho] <;> exact ⟨nofun, nofun, nofun⟩
    · rw [h.off_of_apart (by rw [hst]; nofun) (h.queue hst e he)]
      nofun

end Sys2Proof.Machine

/-! ## The fault log and ALERT_N (O47, O50, O51) -/

namespace Sys2Proof.Machine

/-! ### Occurrences -/

/-- Below its capacity the log keeps the occurrence at its tail (R162). -/
theorem FaultUnit.take_of_room {u : FaultUnit} (h : u.log.length < Config.logCapacity) (o : Occurrence) :
    u.take o =
      { u with
        log := u.log ++ [{ serial := u.serial, occ := o }]
        serial := u.serial + 1
        causes := u.causes.noteKind o.kind } :=
  if_pos h

/-- A full log drops the occurrence and counts it (R162). -/
theorem FaultUnit.take_of_full {u : FaultUnit} (h : Config.logCapacity ≤ u.log.length) (o : Occurrence) :
    u.take o =
      { u with
        serial := u.serial + 1
        dropped := min 255 (u.dropped + 1)
        causes := { u.causes.noteKind o.kind with drop := true } } :=
  if_neg (Nat.not_lt.2 h)

/-- The dropped count stops at 255 (R162). -/
theorem min_255_succ (n : Nat) : min 255 (n + 1) = if n < 255 then n + 1 else 255 := by
  split <;> omega

/-- Settles O50: `FaultUnit.take` below the log's capacity and at it. -/
theorem occurrenceTakesTheNextSerial : Obligations.OccurrenceTakesTheNextSerial := by
  intro u o
  refine ⟨fun hroom => FaultUnit.take_of_room hroom o, fun hfull => ?_⟩
  rw [FaultUnit.take_of_full hfull, min_255_succ]
  rfl

/-! ### ALERT_N -/

/-- ALERT_N by its five causes and enables (R168, R170). -/
theorem FaultUnit.alert_iff (u : FaultUnit) :
    u.alert = true ↔
      (u.log ≠ [] ∧ u.enables.log = true) ∨ (u.causes.drop = true ∧ u.enables.drop = true)
        ∨ (u.causes.late = true ∧ u.enables.late = true) ∨ (u.causes.overrun = true ∧ u.enables.overrun = true)
        ∨ (u.causes.retain = true ∧ u.enables.retain = true) := by
  simp only [FaultUnit.alert, Bool.or_eq_true, Bool.and_eq_true, FaultUnit.logCause_iff, or_assoc]

/-- Settles O51: ALERT_N is the unit's `alert`. -/
theorem alertWhileAnEnabledCauseIsSet : Obligations.AlertWhileAnEnabledCauseIsSet :=
  fun s => s.faults.alert_iff

/-! ### A fault record in numbers (11.6) -/

/-- The number of a fault kind (11.6). -/
def FaultKind.number : FaultKind → Nat
  | .decodeMiss => 1
  | .noAccess => 2
  | .readOnlyWrite => 3
  | .targetAbsent => 4
  | .auxDenied => 5
  | .burstSplit => 6
  | .deviceTimeout => 7
  | .lateWrite => 8
  | .refreshOverrun => 9
  | .hostWithdrawn => 10

/-- The number of a fault source (11.6). -/
def FaultSource.number : FaultSource → Nat
  | .sp => 1
  | .ap => 2
  | .pwq => 3
  | .slice => 4

/-- The number of a fault direction (11.6). -/
def FaultDir.number : FaultDir → Nat
  | .read => 1
  | .write => 2
  | .none => 3

/-- The number of a fault record's lanes, 0 where they are absent (11.6). -/
def laneNumber : Option Lanes → Nat
  | some .u => 2
  | some .l => 1
  | some .ul => 3
  | none => 0

theorem FaultKind.code_eq (k : FaultKind) : k.code = BitVec.ofNat 8 k.number := by
  cases k <;> rfl

/-- The byte of the source and the direction (11.6). -/
theorem sourceDirByte_eq (x : FaultSource) (d : FaultDir) : x.code ++ d.code = BitVec.ofNat 8 (x.number * 16 + d.number) := by
  cases x <;> cases d <;> rfl

/-- The seven presence flags in the high bits of a byte (11.6). -/
theorem sevenFlags_eq (a b c d e f g : Bool) :
    BitVec.ofBool a ++ BitVec.ofBool b ++ BitVec.ofBool c ++ BitVec.ofBool d ++ BitVec.ofBool e ++ BitVec.ofBool f
        ++ BitVec.ofBool g ++ (0 : BitVec 1)
      = BitVec.ofNat 8 (a.toNat * 128 + b.toNat * 64 + c.toNat * 32 + d.toNat * 16 + e.toNat * 8 + f.toNat * 4 + g.toNat * 2) := by
  decide +revert

/-- The byte of the region and the chip select (11.6). -/
theorem regionCsByte_eq (i : Fin 16) (k : Cs) :
    BitVec.ofNat 4 i ++ (0 : BitVec 2) ++ BitVec.ofNat 2 k = BitVec.ofNat 8 (i.val * 16 + k.val) := by
  decide +revert

theorem laneBits_toNat (m : Option Lanes) : ((m.map Lanes.bits).getD 0).toNat = laneNumber m := by
  obtain _ | _ | _ | _ := m <;> rfl

/-- The byte of the lanes and the burst length (11.6). -/
theorem lanesBurstByte_eq (m : Option Lanes) (n : Nat) :
    (m.map Lanes.bits).getD 0 ++ (0 : BitVec 2) ++ BitVec.ofNat 4 n = BitVec.ofNat 8 (laneNumber m * 64 + n % 16) := by
  have hbits := ((m.map Lanes.bits).getD 0).isLt
  apply BitVec.eq_of_toNat_eq
  rw [laneBits_toNat] at hbits
  have hzero : (0 : BitVec 2).toNat = 0 := rfl
  rw [toNat_append_eq, toNat_append_eq, laneBits_toNat, hzero, BitVec.toNat_ofNat, BitVec.toNat_ofNat]
  omega

/-- The sixteen bytes of a fault record (11.6). -/
theorem FaultRecord.bytes_eq (r : FaultRecord) :
    let o := r.occ
    let word := (o.word.getD 0).toNat
    let phys := (o.phys.getD 0).toNat
    let data := (o.data.getD 0).toNat
    r.bytes =
      [BitVec.ofNat 8 (r.serial.toNat / 256), BitVec.ofNat 8 r.serial.toNat, BitVec.ofNat 8 o.kind.number,
        BitVec.ofNat 8 (o.source.number * 16 + o.dir.number),
        BitVec.ofNat 8 (o.word.isSome.toNat * 128 + o.lanes.isSome.toNat * 64 + o.burst.isSome.toNat * 32
          + o.data.isSome.toNat * 16 + o.region.isSome.toNat * 8 + o.cs.isSome.toNat * 4 + o.phys.isSome.toNat * 2),
        BitVec.ofNat 8 (word / 65536), BitVec.ofNat 8 (word / 256), BitVec.ofNat 8 word, BitVec.ofNat 8 (phys / 65536),
        BitVec.ofNat 8 (phys / 256), BitVec.ofNat 8 phys, BitVec.ofNat 8 (data / 256), BitVec.ofNat 8 data,
        BitVec.ofNat 8 ((o.region.getD 0).val * 16 + (o.cs.getD 0).val),
        BitVec.ofNat 8 (laneNumber o.lanes * 64 + o.burst.getD 0 % 16), 0] := by
  simp only [FaultRecord.bytes, halfBytes_eq, addrBytes_eq, FaultKind.code_eq, sourceDirByte_eq, sevenFlags_eq, regionCsByte_eq,
    lanesBurstByte_eq, List.cons_append, List.nil_append]

/-- The empty marker's bytes (R166). -/
theorem emptyMarkerBytes_eq (n : BitVec 16) :
    emptyMarkerBytes n = [BitVec.ofNat 8 (n.toNat / 256), BitVec.ofNat 8 n.toNat] ++ List.replicate 14 0 := by
  rw [emptyMarkerBytes, halfBytes_eq]

/-! ### The fault log's commands -/

theorem FaultUnit.oldest_of_cons {u : FaultUnit} {r : FaultRecord} {rest : List FaultRecord} (h : u.log = r :: rest) :
    u.oldest = r.bytes := by
  rw [FaultUnit.oldest, h]

theorem FaultUnit.oldest_of_nil {u : FaultUnit} (h : u.log = []) : u.oldest = emptyMarkerBytes u.serial := by
  rw [FaultUnit.oldest, h]

section Commands

variable {s : State} {f : Frame} {arg mask : Byte}

/-- POP_FAULT at its commit point (R166). -/
theorem exec_popFault_of_atCommit (h : s.AtCommit f [0x30, arg]) :
    exec (.popFault arg) s =
      .next ((s.setFaults { s.faults with log := s.faults.log.tail }).withResult f .done s.faults.oldest) :=
  commit_done h rfl

/-- PEEK_FAULT at its commit point (R167). -/
theorem exec_peekFault_of_atCommit (h : s.AtCommit f [0x31, arg]) :
    exec (.peekFault arg) s = .next (s.withResult f .done s.faults.oldest) :=
  commit_done h rfl

/-- CLEAR_CAUSES at its commit point (R169). -/
theorem exec_clearCauses_of_atCommit (h : s.AtCommit f [0x32, arg, mask]) :
    exec (.clearCauses arg mask) s = .next ((s.setFaults (s.faults.clearCauses mask)).withResult f .done []) :=
  commit_done h rfl

end Commands

/-- POP_FAULT removes nothing from an empty log (R166). -/
theorem State.setFaults_tail_of_nil {s : State} (h : s.faults.log = []) :
    s.setFaults { s.faults with log := s.faults.log.tail } = s := by
  have htail : s.faults.log.tail = s.faults.log := by rw [h, List.tail_nil]
  rw [htail]
  rfl

/-- Settles O47: each command at its commit point, with the oldest record's bytes by `FaultRecord.bytes_eq` or the empty marker's by
`emptyMarkerBytes_eq`. -/
theorem faultLogCommandsReadAndClear : Obligations.FaultLogCommandsReadAndClear := by
  intro s f arg mask
  refine ⟨fun r rest hlog => ?_, fun hlog => ?_, exec_clearCauses_of_atCommit⟩
  · have hold := (FaultUnit.oldest_of_cons hlog).trans r.bytes_eq
    refine ⟨fun h => ?_, fun h => ?_⟩
    · rw [exec_popFault_of_atCommit h, hold, hlog]
      rfl
    · rw [exec_peekFault_of_atCommit h, hold]
      rfl
  · have hold := (FaultUnit.oldest_of_nil hlog).trans (emptyMarkerBytes_eq _)
    refine ⟨fun h => ?_, fun h => ?_⟩
    · rw [exec_popFault_of_atCommit h, hold, State.setFaults_tail_of_nil hlog]
    · rw [exec_peekFault_of_atCommit h, hold]

end Sys2Proof.Machine

/-! ## GET_SUMMARY and CONFIG_RESET (O43, O48) -/

namespace Sys2Proof.Machine

section Commands

variable {s : State} {f : Frame} {arg : Byte}

/-! ### GET_SUMMARY -/

theorem summaryReply_of_no_error (he : s.mp.errorFlag = false) : summaryReply s = .done s [s.summary] := by
  rw [summaryReply, State.summary, he]
  rfl

/-- The flag is set, so its bit in the byte is drawn (log 11). -/
theorem summaryReply_of_error (he : s.mp.errorFlag = true) :
    summaryReply s = .done s.draw [s.summaryWith (Config.summaryKeepsFlag s.draws)] :=
  if_pos he

/-- GET_SUMMARY at its commit point (R172). -/
theorem exec_getSummary_of_atCommit (h : s.AtCommit f [0x10, arg]) {x : State} {data : List Byte}
    (hr : summaryReply s = .done x data) (hm : x.mp = s.mp) :
    exec (.getSummary arg) s = .next (x.withResult f .done data) := by
  show execGetSummary arg s = _
  rw [execGetSummary, hr]
  exact commit_done h hm

/-! ### CONFIG_RESET -/

theorem SysPort.inHold_eq_false_iff {p : SysPort} : p.inHold = false ↔ ∀ r d, p.access ≠ .hold r d := by
  unfold SysPort.inHold
  cases p.access <;> simp

theorem AuxPort.waiting_eq_false_iff {a : AuxPort} :
    a.waiting = false ↔ a.phase ≠ .order ∧ a.phase ≠ .wake ∧ a.phase ≠ .grant := by
  unfold AuxPort.waiting
  cases a.phase <;> simp

/-- No self-refresh command is issued for any chip select (R150). -/
theorem Retention.issued_all_isNone_iff {r : Retention} :
    r.issued.toList.all Option.isNone = true ↔ ∀ k : Cs, r.issued[k] = none := by
  simp [Fin.forall_iff]

/-- The six conditions of R176. -/
theorem State.quiescent_iff :
    s.quiescent = true ↔
      s.queue = [] ∧ s.channel.txn = none ∧ (∀ r d, s.sp.access ≠ .hold r d)
        ∧ (s.ap.phase ≠ .order ∧ s.ap.phase ≠ .wake ∧ s.ap.phase ≠ .grant) ∧ s.retention.state = .running
        ∧ ∀ k : Cs, s.retention.issued[k] = none := by
  simp only [State.quiescent, Bool.and_eq_true, Bool.not_eq_true', beq_iff_eq, List.isEmpty_iff, Option.isNone_iff_eq_none,
    SysPort.inHold_eq_false_iff, AuxPort.waiting_eq_false_iff, Retention.issued_all_isNone_iff, and_assoc]

/-- CONFIG_RESET at its commit point when its conditions hold (R176). -/
theorem exec_configReset_of_quiescent (h : s.AtCommit f [0x5A, arg]) (hq : s.quiescent = true) :
    exec (.configReset arg) s = .next
      (((s.setTables Tables.reset).setSlices (Vector.replicate 4 Slice.reset)).withResult f .done []) := by
  show execConfigReset arg s = _
  rw [execConfigReset, configResetReply, if_pos hq]
  exact commit_done h rfl

theorem exec_configReset_of_not_quiescent (h : s.AtCommit f [0x5A, arg]) (hq : ¬ s.quiescent = true) :
    exec (.configReset arg) s = .next (s.withResult f .busy []) := by
  show execConfigReset arg s = _
  rw [execConfigReset, configResetReply, if_neg hq]
  exact commit_refuse h _ _

end Commands

/-- Settles O43: the reply with the flag clear, and the reply that draws its bit when it is set. -/
theorem getSummaryReturnsTheSummary : Obligations.GetSummaryReturnsTheSummary := by
  intro s f arg h
  exact ⟨fun he => exec_getSummary_of_atCommit h (summaryReply_of_no_error he) rfl,
    fun he => ⟨Config.summaryKeepsFlag s.draws, exec_getSummary_of_atCommit h (summaryReply_of_error he) rfl⟩⟩

/-- Settles O48: the six conditions decide between the reset values, `Slice.reset` in every slice, and the refusal. -/
theorem configResetNeedsAQuietPart : Obligations.ConfigResetNeedsAQuietPart := by
  intro s f arg h
  dsimp only
  rw [← State.quiescent_iff]
  refine ⟨fun hq => ⟨Vector.replicate 4 Slice.reset, fun k => ?_, exec_configReset_of_quiescent h hq⟩,
    exec_configReset_of_not_quiescent h⟩
  rw [replicate_getElem_fin]
  exact ⟨rfl, rfl, rfl, rfl⟩

end Sys2Proof.Machine


/-! ## The front command, and what comes in from outside (O1, O2)

The queue of commands and the bytes on MSI are filled from outside (logs 1 and 14): a step takes the front command, only a CK period
shifts a byte, and no command touches either. -/

namespace Sys2Proof.Machine

/-- The queue of commands and the bytes on their way on MSI are the same. -/
structure State.SameInputs (s s' : State) : Prop where
  pending : s'.pending = s.pending
  msi : s'.msi = s.msi

namespace State.SameInputs

variable {s s' s'' : State}

theorem refl (s : State) : s.SameInputs s := ⟨rfl, rfl⟩

theorem trans (h : s.SameInputs s') (h' : s'.SameInputs s'') : s.SameInputs s'' :=
  ⟨h'.pending.trans h.pending, h'.msi.trans h.msi⟩

/-- The controller's tests and the decision of a completion take no command and no byte. -/
theorem conclude (h : s.SameInputs s') : s.SameInputs s'.conclude := h.trans ⟨s'.conclude_pending, s'.conclude_msi⟩

theorem setTables (s : State) (x : Tables) : s.SameInputs (s.setTables x) := ⟨rfl, rfl⟩

theorem setRetention (s : State) (x : Retention) : s.SameInputs (s.setRetention x) := ⟨rfl, rfl⟩

theorem setFaults (s : State) (x : FaultUnit) : s.SameInputs (s.setFaults x) := ⟨rfl, rfl⟩

theorem enterResuming (s : State) : s.SameInputs s.enterResuming := ⟨rfl, rfl⟩

theorem sliceEffects (h : s.SameInputs s') (k : Cs) (old new : ChipSel) : s.SameInputs (s'.sliceEffects k old new) := by
  refine h.trans ?_
  unfold State.sliceEffects
  split
  · exact ⟨rfl, rfl⟩
  · split <;> exact ⟨rfl, rfl⟩

/-- A commit point changes the frame and whatever the reply's part changes. -/
theorem commit {r : Reply} (h : s.SameInputs r.state) (bytes : List Byte) : s.SameInputs (s.commit bytes r) := by
  unfold State.commit
  split
  · exact ⟨h.pending, h.msi⟩
  · exact refl s

end State.SameInputs

/-! ### The replies of the Management Port's commands -/

section Replies

variable (s : State)

theorem summaryReply_keeps_inputs : s.SameInputs (summaryReply s).state := by
  unfold summaryReply
  split <;> exact ⟨rfl, rfl⟩

theorem itemReply_keeps_inputs (i : Item) : s.SameInputs (itemReply s i).state := by
  cases i
  case queue =>
    unfold itemReply
    dsimp only
    split <;> exact ⟨rfl, rfl⟩
  all_goals exact .refl s

theorem regionReply_keeps_inputs (i : Fin 16) (r : Region) : s.SameInputs (regionReply s i r).state := by
  unfold regionReply
  split <;> exact ⟨rfl, rfl⟩

theorem profileReply_keeps_inputs (i : Fin 8) (x : Option Profile) : s.SameInputs (profileReply s i x).state := by
  cases x <;> exact ⟨rfl, rfl⟩

theorem chipselReply_keeps_inputs (k : Cs) (c : ChipSel) : s.SameInputs (chipselReply s k c).state := by
  unfold chipselReply
  split
  · exact .refl s
  · rw [Reply.done_state]
    exact ((State.SameInputs.setTables s _).sliceEffects k _ c).conclude

theorem bankwinReply_keeps_inputs (k : Fin 4) (x : Option Window) : s.SameInputs (bankwinReply s k x).state := by
  cases x <;> exact ⟨rfl, rfl⟩

theorem watermarkReply_keeps_inputs (n : Nat) : s.SameInputs (watermarkReply s n).state := by
  unfold watermarkReply
  split <;> exact ⟨rfl, rfl⟩

theorem enterReply_keeps_inputs : s.SameInputs (enterReply s).state := by
  unfold enterReply
  split
  · rw [Reply.done_state]
    exact (State.SameInputs.setRetention s _).conclude
  all_goals exact .refl s

theorem exitReply_keeps_inputs : s.SameInputs (exitReply s).state := by
  unfold exitReply
  split
  · exact .refl s
  · split <;> exact ⟨rfl, rfl⟩
  · rw [Reply.done_state]
    exact (State.SameInputs.enterResuming s).conclude
  · exact .refl s

theorem configResetReply_keeps_inputs : s.SameInputs (configResetReply s).state := by
  unfold configResetReply
  split <;> exact ⟨rfl, rfl⟩

end Replies

/-! ### Every command -/

/-- No command ends in a fault or a refusal (log 24). -/
theorem exec_answers_next (c : Instr) (s : State) : ∃ s', exec c s = .next s' := by
  cases c <;> exact ⟨_, rfl⟩

/-- A command of the ports, the channel or the slices changes nothing, or is a composition of operations that each keep the inputs;
a command of the Management Port is a commit of its reply. -/
theorem exec_keeps_inputs (c : Instr) {s s' : State} (hx : exec c s = .next s') : s.SameInputs s' := by
  cases c <;> injection hx with hx <;> subst hx
  case spPresentation | writeBeat | spAccessEnd | lockNRelease | axReqRelease | refreshCompletion | selfEnterCompletion
      | selfExitCompletion =>
    split <;> exact ⟨by simp, by simp⟩
  case spReleaseSeen | frameStart | resetRelease => split <;> exact ⟨rfl, rfl⟩
  case apPresentation t =>
    split
    · exact ⟨by simp, by simp⟩
    · split <;> exact ⟨rfl, rfl⟩
  case deferredPresentation | closingPeriodEnd | frameEnd =>
    split
    · exact .refl s
    · split <;> exact ⟨rfl, rfl⟩
  case phaseEnd | mrdyReady | readyLimitExceeded => exact ⟨State.wordEvent_pending .., State.wordEvent_msi ..⟩
  case spTransactionCompletion | drainCompletion | burstCompletion | burstWordEnd =>
    split
    · split <;> exact ⟨by simp, by simp⟩
    · exact .refl s
  case intervalExpiry k =>
    dsimp only
    split
    · split <;> exact ⟨by simp, by simp⟩
    · exact .refl s
  case exitTimerExpiry k =>
    dsimp only
    split <;> exact ⟨by simp, by simp⟩
  case unknownOpcode =>
    split
    · exact .commit (.refl s) _
    · exact .refl s
  case getSummary => exact (summaryReply_keeps_inputs s).commit _
  case readItem arg =>
    refine .commit ?_ _
    split
    · exact itemReply_keeps_inputs s _
    · exact .refl s
  case writeRegion i p => exact (regionReply_keeps_inputs s i _).commit _
  case writeProfile i p => exact (profileReply_keeps_inputs s i _).commit _
  case writeChipsel k p => exact (chipselReply_keeps_inputs s k _).commit _
  case writeBankwin k p => exact (bankwinReply_keeps_inputs s k _).commit _
  case writeQueueWatermark p => exact (watermarkReply_keeps_inputs s _).commit _
  case peekFault => exact .commit (.refl s) _
  case writeAlertEnables | popFault | clearCauses => exact .commit (.setFaults s _) _
  case enterRetention => exact (enterReply_keeps_inputs s).commit _
  case exitRetention => exact (exitReply_keeps_inputs s).commit _
  case configReset => exact (configResetReply_keeps_inputs s).commit _
  case pinReset => exact ⟨rfl, rfl⟩

/-- Settles O2: every command has a next state, and that state has the inputs of the state before. -/
theorem everyCommandAnswersNextAndKeepsPending : Obligations.EveryCommandAnswersNextAndKeepsPending := by
  intro c s
  obtain ⟨s', hx⟩ := exec_answers_next c s
  have h := exec_keeps_inputs c hx
  exact ⟨s', hx, h.pending, h.msi⟩

/-- Settles O1: `step` branches on the queue alone, and the command runs with the rest of it. -/
theorem stepRunsTheFrontCommand : Obligations.StepRunsTheFrontCommand :=
  fun _ _ _ => rfl

end Sys2Proof.Machine
